-- ==== Sys2Proof/Word.lean ====
section
/-! DEFINITION. The word types of the block: `00_scope.md` R5 (8-bit registers and bytes, 16-bit pairs, PC, SP). -/

namespace Sys2Proof

/-- A u8 of `00_scope.md` R6: an 8-bit register or a byte of memory. -/
abbrev Byte := BitVec 8

/-- A u16 of `00_scope.md` R6: a register pair, PC or SP. -/
abbrev Word := BitVec 16

end Sys2Proof
end

