-- ==== Sys2Proof/Syntax.lean ====
section
/-! DEFINITION. The instruction set as syntax: operand names (`30_encoding.md` R53 to R56, R60) and `Instr`, one
constructor for each of the 369 rows of `spec/opcode_table.json`. -/

namespace Sys2Proof

/-- The 8-bit registers an opcode can name (`30_encoding.md` R53, codes 0 to 5 and 7). F has no code (R10, R53). -/
inductive Reg where
  | b | c | d | e | h | l | a
  deriving DecidableEq, Repr

/-- The four 16-bit pair views (`10_state.md` R11). -/
inductive Pair where
  | bc | de | hl | af
  deriving DecidableEq, Repr

/-- The pairs that `LD rr,nn`, `INC rr` and `LD A,(rr)` take (`30_encoding.md` R54, R59): AF is not among them. -/
inductive DataPair where
  | bc | de | hl
  deriving DecidableEq, Repr

/-- A condition of `JR cc,e` (`30_encoding.md` R55). -/
inductive Cond where
  | nz | z | nc | c
  deriving DecidableEq, Repr

/-- A three-bit index: the bit number of `BIT`, `RES`, `SET` (`30_encoding.md` R60) or the vector of `RST` (R56). -/
inductive Index8 where
  | i0 | i1 | i2 | i3 | i4 | i5 | i6 | i7
  deriving DecidableEq, Repr

/-- The operand x of an extended operation (`30_encoding.md` R60): a register or the memory byte at HL. -/
inductive Operand8 where
  | reg (r : Reg)
  | atHL
  deriving DecidableEq, Repr

/-- The rotates and shifts of the extended table (`45_extended.md` R130 to R143). -/
inductive ShiftOp where
  | rlc | rrc | rl | rr | sla | sra | srl
  deriving DecidableEq, Repr

/-- An extended operation with its operands (`30_encoding.md` R60). -/
inductive ExtOp where
  | shift (op : ShiftOp) (x : Operand8)
  | bit (b : Index8) (x : Operand8)
  | res (b : Index8) (x : Operand8)
  | set (b : Index8) (x : Operand8)
  deriving DecidableEq, Repr

/-- One constructor for each row of `spec/opcode_table.json`, in the table's order; the docstring of a constructor is
the row's assembly text and its rule. `n` is an unsigned 8-bit immediate, `e` the raw byte of a signed offset, `nn` a
16-bit immediate (`30_encoding.md` R52). `prefixCB` is the row of the prefix byte 0xCB itself with the extended byte
after it (`44_control.md` R124): the decoder gives it for the eight extended bytes that no extended row names. -/
inductive Instr where
  /-- `PUSH BC` (R80) -/
  | pushBC
  /-- `POP BC` (R81) -/
  | popBC
  /-- `PUSH DE` (R80) -/
  | pushDE
  /-- `POP DE` (R81) -/
  | popDE
  /-- `PUSH HL` (R80) -/
  | pushHL
  /-- `POP HL` (R81) -/
  | popHL
  /-- `PUSH AF` (R80) -/
  | pushAF
  /-- `POP AF` (R81) -/
  | popAF
  /-- `LD B,B` (R85) -/
  | ldBFromB
  /-- `LD B,C` (R85) -/
  | ldBFromC
  /-- `LD B,D` (R85) -/
  | ldBFromD
  /-- `LD B,E` (R85) -/
  | ldBFromE
  /-- `LD B,H` (R85) -/
  | ldBFromH
  /-- `LD B,L` (R85) -/
  | ldBFromL
  /-- `LD B,A` (R85) -/
  | ldBFromA
  /-- `LD C,B` (R85) -/
  | ldCFromB
  /-- `LD C,C` (R85) -/
  | ldCFromC
  /-- `LD C,D` (R85) -/
  | ldCFromD
  /-- `LD C,E` (R85) -/
  | ldCFromE
  /-- `LD C,H` (R85) -/
  | ldCFromH
  /-- `LD C,L` (R85) -/
  | ldCFromL
  /-- `LD C,A` (R85) -/
  | ldCFromA
  /-- `LD D,B` (R85) -/
  | ldDFromB
  /-- `LD D,C` (R85) -/
  | ldDFromC
  /-- `LD D,D` (R85) -/
  | ldDFromD
  /-- `LD D,E` (R85) -/
  | ldDFromE
  /-- `LD D,H` (R85) -/
  | ldDFromH
  /-- `LD D,L` (R85) -/
  | ldDFromL
  /-- `LD D,A` (R85) -/
  | ldDFromA
  /-- `LD E,B` (R85) -/
  | ldEFromB
  /-- `LD E,C` (R85) -/
  | ldEFromC
  /-- `LD E,D` (R85) -/
  | ldEFromD
  /-- `LD E,E` (R85) -/
  | ldEFromE
  /-- `LD E,H` (R85) -/
  | ldEFromH
  /-- `LD E,L` (R85) -/
  | ldEFromL
  /-- `LD E,A` (R85) -/
  | ldEFromA
  /-- `LD H,B` (R85) -/
  | ldHFromB
  /-- `LD H,C` (R85) -/
  | ldHFromC
  /-- `LD H,D` (R85) -/
  | ldHFromD
  /-- `LD H,E` (R85) -/
  | ldHFromE
  /-- `LD H,H` (R85) -/
  | ldHFromH
  /-- `LD H,L` (R85) -/
  | ldHFromL
  /-- `LD H,A` (R85) -/
  | ldHFromA
  /-- `LD L,B` (R85) -/
  | ldLFromB
  /-- `LD L,C` (R85) -/
  | ldLFromC
  /-- `LD L,D` (R85) -/
  | ldLFromD
  /-- `LD L,E` (R85) -/
  | ldLFromE
  /-- `LD L,H` (R85) -/
  | ldLFromH
  /-- `LD L,L` (R85) -/
  | ldLFromL
  /-- `LD L,A` (R85) -/
  | ldLFromA
  /-- `LD A,B` (R85) -/
  | ldAFromB
  /-- `LD A,C` (R85) -/
  | ldAFromC
  /-- `LD A,D` (R85) -/
  | ldAFromD
  /-- `LD A,E` (R85) -/
  | ldAFromE
  /-- `LD A,H` (R85) -/
  | ldAFromH
  /-- `LD A,L` (R85) -/
  | ldAFromL
  /-- `LD A,A` (R85) -/
  | ldAFromA
  /-- `LD (nn),SP` (R88) -/
  | ldAtImmFromSP (nn : Word)
  /-- `INC B` (R110) -/
  | incB
  /-- `DEC B` (R111) -/
  | decB
  /-- `LD B,n` (R86) -/
  | ldBImm (n : Byte)
  /-- `INC C` (R110) -/
  | incC
  /-- `DEC C` (R111) -/
  | decC
  /-- `LD C,n` (R86) -/
  | ldCImm (n : Byte)
  /-- `INC D` (R110) -/
  | incD
  /-- `DEC D` (R111) -/
  | decD
  /-- `LD D,n` (R86) -/
  | ldDImm (n : Byte)
  /-- `INC E` (R110) -/
  | incE
  /-- `DEC E` (R111) -/
  | decE
  /-- `LD E,n` (R86) -/
  | ldEImm (n : Byte)
  /-- `INC H` (R110) -/
  | incH
  /-- `DEC H` (R111) -/
  | decH
  /-- `LD H,n` (R86) -/
  | ldHImm (n : Byte)
  /-- `INC L` (R110) -/
  | incL
  /-- `DEC L` (R111) -/
  | decL
  /-- `LD L,n` (R86) -/
  | ldLImm (n : Byte)
  /-- `INC A` (R110) -/
  | incA
  /-- `DEC A` (R111) -/
  | decA
  /-- `LD A,n` (R86) -/
  | ldAImm (n : Byte)
  /-- `LD (HL),n` (R87) -/
  | ldAtHLImm (n : Byte)
  /-- `LD BC,nn` (R89) -/
  | ldBCImm (nn : Word)
  /-- `LD DE,nn` (R89) -/
  | ldDEImm (nn : Word)
  /-- `LD HL,nn` (R89) -/
  | ldHLImm (nn : Word)
  /-- `LD SP,nn` (R90) -/
  | ldSPImm (nn : Word)
  /-- `LD A,(BC)` (R91) -/
  | ldAFromAtBC
  /-- `LD A,(DE)` (R91) -/
  | ldAFromAtDE
  /-- `LD A,(HL)` (R92) -/
  | ldAFromAtHL
  /-- `JR e` (R120) -/
  | jr (e : Byte)
  /-- `JR NZ,e` (R121) -/
  | jrNZ (e : Byte)
  /-- `JR Z,e` (R121) -/
  | jrZ (e : Byte)
  /-- `JR NC,e` (R121) -/
  | jrNC (e : Byte)
  /-- `JR C,e` (R121) -/
  | jrC (e : Byte)
  /-- `LD (HL+),A` (R93) -/
  | ldAtHLIncFromA
  /-- `LD (HL-),A` (R94) -/
  | ldAtHLDecFromA
  /-- `LD A,(HL+)` (R95) -/
  | ldAFromAtHLInc
  /-- `LD A,(HL-)` (R96) -/
  | ldAFromAtHLDec
  /-- `INC BC` (R113) -/
  | incBC
  /-- `INC DE` (R113) -/
  | incDE
  /-- `INC HL` (R113) -/
  | incHL
  /-- `XOR B` (R114) -/
  | xorB
  /-- `XOR C` (R114) -/
  | xorC
  /-- `XOR D` (R114) -/
  | xorD
  /-- `XOR E` (R114) -/
  | xorE
  /-- `XOR H` (R114) -/
  | xorH
  /-- `XOR L` (R114) -/
  | xorL
  /-- `XOR A` (R114) -/
  | xorA
  /-- `RST 0x00` (R123) -/
  | rst00
  /-- `RST 0x08` (R123) -/
  | rst08
  /-- `RST 0x10` (R123) -/
  | rst10
  /-- `RST 0x18` (R123) -/
  | rst18
  /-- `RST 0x20` (R123) -/
  | rst20
  /-- `RST 0x28` (R123) -/
  | rst28
  /-- `RST 0x30` (R123) -/
  | rst30
  /-- `RST 0x38` (R123) -/
  | rst38
  /-- `LD (0xFF00+n),A` (R97) -/
  | ldHighImmFromA (n : Byte)
  /-- `LD A,(0xFF00+n)` (R98) -/
  | ldAFromHighImm (n : Byte)
  /-- `LD (0xFF00+C),A` (R99) -/
  | ldHighCFromA
  /-- `LD A,(0xFF00+C)` (R100) -/
  | ldAFromHighC
  /-- `RLA` (R115) -/
  | rlaAcc
  /-- `CALL nn` (R122) -/
  | call (nn : Word)
  /-- `PREFIX CB` (R124) -/
  | prefixCB (ext : Byte)
  /-- `RLC B` (R130) -/
  | rlcB
  /-- `RLC C` (R130) -/
  | rlcC
  /-- `RLC D` (R130) -/
  | rlcD
  /-- `RLC E` (R130) -/
  | rlcE
  /-- `RLC H` (R130) -/
  | rlcH
  /-- `RLC L` (R130) -/
  | rlcL
  /-- `RLC (HL)` (R131) -/
  | rlcAtHL
  /-- `RLC A` (R130) -/
  | rlcA
  /-- `RRC B` (R132) -/
  | rrcB
  /-- `RRC C` (R132) -/
  | rrcC
  /-- `RRC D` (R132) -/
  | rrcD
  /-- `RRC E` (R132) -/
  | rrcE
  /-- `RRC H` (R132) -/
  | rrcH
  /-- `RRC L` (R132) -/
  | rrcL
  /-- `RRC (HL)` (R133) -/
  | rrcAtHL
  /-- `RRC A` (R132) -/
  | rrcA
  /-- `RL B` (R134) -/
  | rlB
  /-- `RL C` (R134) -/
  | rlC
  /-- `RL D` (R134) -/
  | rlD
  /-- `RL E` (R134) -/
  | rlE
  /-- `RL H` (R134) -/
  | rlH
  /-- `RL L` (R134) -/
  | rlL
  /-- `RL (HL)` (R135) -/
  | rlAtHL
  /-- `RL A` (R134) -/
  | rlA
  /-- `RR B` (R136) -/
  | rrB
  /-- `RR C` (R136) -/
  | rrC
  /-- `RR D` (R136) -/
  | rrD
  /-- `RR E` (R136) -/
  | rrE
  /-- `RR H` (R136) -/
  | rrH
  /-- `RR L` (R136) -/
  | rrL
  /-- `RR (HL)` (R137) -/
  | rrAtHL
  /-- `RR A` (R136) -/
  | rrA
  /-- `SLA B` (R138) -/
  | slaB
  /-- `SLA C` (R138) -/
  | slaC
  /-- `SLA D` (R138) -/
  | slaD
  /-- `SLA E` (R138) -/
  | slaE
  /-- `SLA H` (R138) -/
  | slaH
  /-- `SLA L` (R138) -/
  | slaL
  /-- `SLA (HL)` (R139) -/
  | slaAtHL
  /-- `SLA A` (R138) -/
  | slaA
  /-- `SRA B` (R140) -/
  | sraB
  /-- `SRA C` (R140) -/
  | sraC
  /-- `SRA D` (R140) -/
  | sraD
  /-- `SRA E` (R140) -/
  | sraE
  /-- `SRA H` (R140) -/
  | sraH
  /-- `SRA L` (R140) -/
  | sraL
  /-- `SRA (HL)` (R141) -/
  | sraAtHL
  /-- `SRA A` (R140) -/
  | sraA
  /-- `SRL B` (R142) -/
  | srlB
  /-- `SRL C` (R142) -/
  | srlC
  /-- `SRL D` (R142) -/
  | srlD
  /-- `SRL E` (R142) -/
  | srlE
  /-- `SRL H` (R142) -/
  | srlH
  /-- `SRL L` (R142) -/
  | srlL
  /-- `SRL (HL)` (R143) -/
  | srlAtHL
  /-- `SRL A` (R142) -/
  | srlA
  /-- `BIT 0,B` (R144) -/
  | bit0B
  /-- `BIT 0,C` (R144) -/
  | bit0C
  /-- `BIT 0,D` (R144) -/
  | bit0D
  /-- `BIT 0,E` (R144) -/
  | bit0E
  /-- `BIT 0,H` (R144) -/
  | bit0H
  /-- `BIT 0,L` (R144) -/
  | bit0L
  /-- `BIT 0,(HL)` (R145) -/
  | bit0AtHL
  /-- `BIT 0,A` (R144) -/
  | bit0A
  /-- `BIT 1,B` (R144) -/
  | bit1B
  /-- `BIT 1,C` (R144) -/
  | bit1C
  /-- `BIT 1,D` (R144) -/
  | bit1D
  /-- `BIT 1,E` (R144) -/
  | bit1E
  /-- `BIT 1,H` (R144) -/
  | bit1H
  /-- `BIT 1,L` (R144) -/
  | bit1L
  /-- `BIT 1,(HL)` (R145) -/
  | bit1AtHL
  /-- `BIT 1,A` (R144) -/
  | bit1A
  /-- `BIT 2,B` (R144) -/
  | bit2B
  /-- `BIT 2,C` (R144) -/
  | bit2C
  /-- `BIT 2,D` (R144) -/
  | bit2D
  /-- `BIT 2,E` (R144) -/
  | bit2E
  /-- `BIT 2,H` (R144) -/
  | bit2H
  /-- `BIT 2,L` (R144) -/
  | bit2L
  /-- `BIT 2,(HL)` (R145) -/
  | bit2AtHL
  /-- `BIT 2,A` (R144) -/
  | bit2A
  /-- `BIT 3,B` (R144) -/
  | bit3B
  /-- `BIT 3,C` (R144) -/
  | bit3C
  /-- `BIT 3,D` (R144) -/
  | bit3D
  /-- `BIT 3,E` (R144) -/
  | bit3E
  /-- `BIT 3,H` (R144) -/
  | bit3H
  /-- `BIT 3,L` (R144) -/
  | bit3L
  /-- `BIT 3,(HL)` (R145) -/
  | bit3AtHL
  /-- `BIT 3,A` (R144) -/
  | bit3A
  /-- `BIT 4,B` (R144) -/
  | bit4B
  /-- `BIT 4,C` (R144) -/
  | bit4C
  /-- `BIT 4,D` (R144) -/
  | bit4D
  /-- `BIT 4,E` (R144) -/
  | bit4E
  /-- `BIT 4,H` (R144) -/
  | bit4H
  /-- `BIT 4,L` (R144) -/
  | bit4L
  /-- `BIT 4,(HL)` (R145) -/
  | bit4AtHL
  /-- `BIT 4,A` (R144) -/
  | bit4A
  /-- `BIT 5,B` (R144) -/
  | bit5B
  /-- `BIT 5,C` (R144) -/
  | bit5C
  /-- `BIT 5,D` (R144) -/
  | bit5D
  /-- `BIT 5,E` (R144) -/
  | bit5E
  /-- `BIT 5,H` (R144) -/
  | bit5H
  /-- `BIT 5,L` (R144) -/
  | bit5L
  /-- `BIT 5,(HL)` (R145) -/
  | bit5AtHL
  /-- `BIT 5,A` (R144) -/
  | bit5A
  /-- `BIT 6,B` (R144) -/
  | bit6B
  /-- `BIT 6,C` (R144) -/
  | bit6C
  /-- `BIT 6,D` (R144) -/
  | bit6D
  /-- `BIT 6,E` (R144) -/
  | bit6E
  /-- `BIT 6,H` (R144) -/
  | bit6H
  /-- `BIT 6,L` (R144) -/
  | bit6L
  /-- `BIT 6,(HL)` (R145) -/
  | bit6AtHL
  /-- `BIT 6,A` (R144) -/
  | bit6A
  /-- `BIT 7,B` (R144) -/
  | bit7B
  /-- `BIT 7,C` (R144) -/
  | bit7C
  /-- `BIT 7,D` (R144) -/
  | bit7D
  /-- `BIT 7,E` (R144) -/
  | bit7E
  /-- `BIT 7,H` (R144) -/
  | bit7H
  /-- `BIT 7,L` (R144) -/
  | bit7L
  /-- `BIT 7,(HL)` (R145) -/
  | bit7AtHL
  /-- `BIT 7,A` (R144) -/
  | bit7A
  /-- `RES 0,B` (R146) -/
  | res0B
  /-- `RES 0,C` (R146) -/
  | res0C
  /-- `RES 0,D` (R146) -/
  | res0D
  /-- `RES 0,E` (R146) -/
  | res0E
  /-- `RES 0,H` (R146) -/
  | res0H
  /-- `RES 0,L` (R146) -/
  | res0L
  /-- `RES 0,(HL)` (R147) -/
  | res0AtHL
  /-- `RES 0,A` (R146) -/
  | res0A
  /-- `RES 1,B` (R146) -/
  | res1B
  /-- `RES 1,C` (R146) -/
  | res1C
  /-- `RES 1,D` (R146) -/
  | res1D
  /-- `RES 1,E` (R146) -/
  | res1E
  /-- `RES 1,H` (R146) -/
  | res1H
  /-- `RES 1,L` (R146) -/
  | res1L
  /-- `RES 1,(HL)` (R147) -/
  | res1AtHL
  /-- `RES 1,A` (R146) -/
  | res1A
  /-- `RES 2,B` (R146) -/
  | res2B
  /-- `RES 2,C` (R146) -/
  | res2C
  /-- `RES 2,D` (R146) -/
  | res2D
  /-- `RES 2,E` (R146) -/
  | res2E
  /-- `RES 2,H` (R146) -/
  | res2H
  /-- `RES 2,L` (R146) -/
  | res2L
  /-- `RES 2,(HL)` (R147) -/
  | res2AtHL
  /-- `RES 2,A` (R146) -/
  | res2A
  /-- `RES 3,B` (R146) -/
  | res3B
  /-- `RES 3,C` (R146) -/
  | res3C
  /-- `RES 3,D` (R146) -/
  | res3D
  /-- `RES 3,E` (R146) -/
  | res3E
  /-- `RES 3,H` (R146) -/
  | res3H
  /-- `RES 3,L` (R146) -/
  | res3L
  /-- `RES 3,(HL)` (R147) -/
  | res3AtHL
  /-- `RES 3,A` (R146) -/
  | res3A
  /-- `RES 4,B` (R146) -/
  | res4B
  /-- `RES 4,C` (R146) -/
  | res4C
  /-- `RES 4,D` (R146) -/
  | res4D
  /-- `RES 4,E` (R146) -/
  | res4E
  /-- `RES 4,H` (R146) -/
  | res4H
  /-- `RES 4,L` (R146) -/
  | res4L
  /-- `RES 4,(HL)` (R147) -/
  | res4AtHL
  /-- `RES 4,A` (R146) -/
  | res4A
  /-- `RES 5,B` (R146) -/
  | res5B
  /-- `RES 5,C` (R146) -/
  | res5C
  /-- `RES 5,D` (R146) -/
  | res5D
  /-- `RES 5,E` (R146) -/
  | res5E
  /-- `RES 5,H` (R146) -/
  | res5H
  /-- `RES 5,L` (R146) -/
  | res5L
  /-- `RES 5,(HL)` (R147) -/
  | res5AtHL
  /-- `RES 5,A` (R146) -/
  | res5A
  /-- `RES 6,B` (R146) -/
  | res6B
  /-- `RES 6,C` (R146) -/
  | res6C
  /-- `RES 6,D` (R146) -/
  | res6D
  /-- `RES 6,E` (R146) -/
  | res6E
  /-- `RES 6,H` (R146) -/
  | res6H
  /-- `RES 6,L` (R146) -/
  | res6L
  /-- `RES 6,(HL)` (R147) -/
  | res6AtHL
  /-- `RES 6,A` (R146) -/
  | res6A
  /-- `RES 7,B` (R146) -/
  | res7B
  /-- `RES 7,C` (R146) -/
  | res7C
  /-- `RES 7,D` (R146) -/
  | res7D
  /-- `RES 7,E` (R146) -/
  | res7E
  /-- `RES 7,H` (R146) -/
  | res7H
  /-- `RES 7,L` (R146) -/
  | res7L
  /-- `RES 7,(HL)` (R147) -/
  | res7AtHL
  /-- `RES 7,A` (R146) -/
  | res7A
  /-- `SET 0,B` (R148) -/
  | set0B
  /-- `SET 0,C` (R148) -/
  | set0C
  /-- `SET 0,D` (R148) -/
  | set0D
  /-- `SET 0,E` (R148) -/
  | set0E
  /-- `SET 0,H` (R148) -/
  | set0H
  /-- `SET 0,L` (R148) -/
  | set0L
  /-- `SET 0,(HL)` (R149) -/
  | set0AtHL
  /-- `SET 0,A` (R148) -/
  | set0A
  /-- `SET 1,B` (R148) -/
  | set1B
  /-- `SET 1,C` (R148) -/
  | set1C
  /-- `SET 1,D` (R148) -/
  | set1D
  /-- `SET 1,E` (R148) -/
  | set1E
  /-- `SET 1,H` (R148) -/
  | set1H
  /-- `SET 1,L` (R148) -/
  | set1L
  /-- `SET 1,(HL)` (R149) -/
  | set1AtHL
  /-- `SET 1,A` (R148) -/
  | set1A
  /-- `SET 2,B` (R148) -/
  | set2B
  /-- `SET 2,C` (R148) -/
  | set2C
  /-- `SET 2,D` (R148) -/
  | set2D
  /-- `SET 2,E` (R148) -/
  | set2E
  /-- `SET 2,H` (R148) -/
  | set2H
  /-- `SET 2,L` (R148) -/
  | set2L
  /-- `SET 2,(HL)` (R149) -/
  | set2AtHL
  /-- `SET 2,A` (R148) -/
  | set2A
  /-- `SET 3,B` (R148) -/
  | set3B
  /-- `SET 3,C` (R148) -/
  | set3C
  /-- `SET 3,D` (R148) -/
  | set3D
  /-- `SET 3,E` (R148) -/
  | set3E
  /-- `SET 3,H` (R148) -/
  | set3H
  /-- `SET 3,L` (R148) -/
  | set3L
  /-- `SET 3,(HL)` (R149) -/
  | set3AtHL
  /-- `SET 3,A` (R148) -/
  | set3A
  /-- `SET 4,B` (R148) -/
  | set4B
  /-- `SET 4,C` (R148) -/
  | set4C
  /-- `SET 4,D` (R148) -/
  | set4D
  /-- `SET 4,E` (R148) -/
  | set4E
  /-- `SET 4,H` (R148) -/
  | set4H
  /-- `SET 4,L` (R148) -/
  | set4L
  /-- `SET 4,(HL)` (R149) -/
  | set4AtHL
  /-- `SET 4,A` (R148) -/
  | set4A
  /-- `SET 5,B` (R148) -/
  | set5B
  /-- `SET 5,C` (R148) -/
  | set5C
  /-- `SET 5,D` (R148) -/
  | set5D
  /-- `SET 5,E` (R148) -/
  | set5E
  /-- `SET 5,H` (R148) -/
  | set5H
  /-- `SET 5,L` (R148) -/
  | set5L
  /-- `SET 5,(HL)` (R149) -/
  | set5AtHL
  /-- `SET 5,A` (R148) -/
  | set5A
  /-- `SET 6,B` (R148) -/
  | set6B
  /-- `SET 6,C` (R148) -/
  | set6C
  /-- `SET 6,D` (R148) -/
  | set6D
  /-- `SET 6,E` (R148) -/
  | set6E
  /-- `SET 6,H` (R148) -/
  | set6H
  /-- `SET 6,L` (R148) -/
  | set6L
  /-- `SET 6,(HL)` (R149) -/
  | set6AtHL
  /-- `SET 6,A` (R148) -/
  | set6A
  /-- `SET 7,B` (R148) -/
  | set7B
  /-- `SET 7,C` (R148) -/
  | set7C
  /-- `SET 7,D` (R148) -/
  | set7D
  /-- `SET 7,E` (R148) -/
  | set7E
  /-- `SET 7,H` (R148) -/
  | set7H
  /-- `SET 7,L` (R148) -/
  | set7L
  /-- `SET 7,(HL)` (R149) -/
  | set7AtHL
  /-- `SET 7,A` (R148) -/
  | set7A
  deriving DecidableEq, Repr

end Sys2Proof
end

