-- ==== Sys2Proof/WellFormed.lean ====
section
/-! DEFINITION. Which terms of `Instr` are instructions of the machine. -/

namespace Sys2Proof

/-- An extended byte without an entry in the extended table: 0x30 to 0x37 (`30_encoding.md` R60, R62). -/
def extUndefined (ext : Byte) : Bool := decide (0x30 ≤ ext.toNat) && decide (ext.toNat ≤ 0x37)

/-- The byte after 0xCB that a `prefixCB` term carries; none for every other constructor. -/
def Instr.prefixByte : Instr → Option Byte
  | .prefixCB ext => some ext
  | _ => none

/-- The one check that the types leave: a `prefixCB` term stands for the prefix followed by a byte WITHOUT an entry
(`44_control.md` R124); with an entry the pair of bytes is the row of the extended table (`30_encoding.md` R57, R60). -/
def WellFormed (i : Instr) : Bool :=
  match i.prefixByte with
  | some ext => extUndefined ext
  | none => true

end Sys2Proof
end

