-- ==== Sys2Proof/Decode.lean ====
section
/-! DEFINITION. Bytes and byte order, the decoder (`30_encoding.md` R50 to R60, read from the fields of R51) and, after it,
the encoder (written from the numbers of `spec/opcode_table.json`). -/

namespace Sys2Proof

/-! ## Byte order (`00_scope.md` R6, `20_memory.md` R32) -/

/-- `low(v) = v mod 256` (`00_scope.md` R6). -/
def lowByte (v : Word) : Byte := v.setWidth 8

/-- `high(v) = (v div 256) mod 256` (`00_scope.md` R6). -/
def highByte (v : Word) : Byte := (v >>> 8).setWidth 8

/-- `hi:lo`, the 16-bit value `hi * 256 + lo` (`00_scope.md` R6). -/
def wordOf (hi lo : Byte) : Word := (hi.setWidth 16 <<< 8) ||| lo.setWidth 16

/-! ## Families: the row of `Instr` that a choice of operands names (`30_encoding.md` R59, R60) -/

/-- `PUSH rr` (`41_stack.md` R80). -/
def pushInstr : Pair → Instr
  | .bc => .pushBC
  | .de => .pushDE
  | .hl => .pushHL
  | .af => .pushAF

/-- `POP rr` (`41_stack.md` R81). -/
def popInstr : Pair → Instr
  | .bc => .popBC
  | .de => .popDE
  | .hl => .popHL
  | .af => .popAF

/-- `LD r,r'`, destination first (`42_loads.md` R85). -/
def ldInstr : Reg → Reg → Instr
  | .b, .b => .ldBFromB
  | .b, .c => .ldBFromC
  | .b, .d => .ldBFromD
  | .b, .e => .ldBFromE
  | .b, .h => .ldBFromH
  | .b, .l => .ldBFromL
  | .b, .a => .ldBFromA
  | .c, .b => .ldCFromB
  | .c, .c => .ldCFromC
  | .c, .d => .ldCFromD
  | .c, .e => .ldCFromE
  | .c, .h => .ldCFromH
  | .c, .l => .ldCFromL
  | .c, .a => .ldCFromA
  | .d, .b => .ldDFromB
  | .d, .c => .ldDFromC
  | .d, .d => .ldDFromD
  | .d, .e => .ldDFromE
  | .d, .h => .ldDFromH
  | .d, .l => .ldDFromL
  | .d, .a => .ldDFromA
  | .e, .b => .ldEFromB
  | .e, .c => .ldEFromC
  | .e, .d => .ldEFromD
  | .e, .e => .ldEFromE
  | .e, .h => .ldEFromH
  | .e, .l => .ldEFromL
  | .e, .a => .ldEFromA
  | .h, .b => .ldHFromB
  | .h, .c => .ldHFromC
  | .h, .d => .ldHFromD
  | .h, .e => .ldHFromE
  | .h, .h => .ldHFromH
  | .h, .l => .ldHFromL
  | .h, .a => .ldHFromA
  | .l, .b => .ldLFromB
  | .l, .c => .ldLFromC
  | .l, .d => .ldLFromD
  | .l, .e => .ldLFromE
  | .l, .h => .ldLFromH
  | .l, .l => .ldLFromL
  | .l, .a => .ldLFromA
  | .a, .b => .ldAFromB
  | .a, .c => .ldAFromC
  | .a, .d => .ldAFromD
  | .a, .e => .ldAFromE
  | .a, .h => .ldAFromH
  | .a, .l => .ldAFromL
  | .a, .a => .ldAFromA

/-- `LD r,n` (`42_loads.md` R86). -/
def ldImmInstr : Reg → Byte → Instr
  | .b, n => .ldBImm n
  | .c, n => .ldCImm n
  | .d, n => .ldDImm n
  | .e, n => .ldEImm n
  | .h, n => .ldHImm n
  | .l, n => .ldLImm n
  | .a, n => .ldAImm n

/-- `LD rr,nn` (`42_loads.md` R89). -/
def ldPairImmInstr : DataPair → Word → Instr
  | .bc, nn => .ldBCImm nn
  | .de, nn => .ldDEImm nn
  | .hl, nn => .ldHLImm nn

/-- `LD A,(rr)` (`42_loads.md` R91, R92). -/
def ldAFromAtInstr : DataPair → Instr
  | .bc => .ldAFromAtBC
  | .de => .ldAFromAtDE
  | .hl => .ldAFromAtHL

/-- `INC r` (`43_arith_logic.md` R110). -/
def incInstr : Reg → Instr
  | .b => .incB
  | .c => .incC
  | .d => .incD
  | .e => .incE
  | .h => .incH
  | .l => .incL
  | .a => .incA

/-- `DEC r`: the register is the one of its own field (`43_arith_logic.md` R111, R112). -/
def decInstr : Reg → Instr
  | .b => .decB
  | .c => .decC
  | .d => .decD
  | .e => .decE
  | .h => .decH
  | .l => .decL
  | .a => .decA

/-- `INC rr` (`43_arith_logic.md` R113). -/
def incPairInstr : DataPair → Instr
  | .bc => .incBC
  | .de => .incDE
  | .hl => .incHL

/-- `XOR r` (`43_arith_logic.md` R114). -/
def xorInstr : Reg → Instr
  | .b => .xorB
  | .c => .xorC
  | .d => .xorD
  | .e => .xorE
  | .h => .xorH
  | .l => .xorL
  | .a => .xorA

/-- `JR cc,e` (`44_control.md` R121). -/
def jrCondInstr : Cond → Byte → Instr
  | .nz, e => .jrNZ e
  | .z, e => .jrZ e
  | .nc, e => .jrNC e
  | .c, e => .jrC e

/-- `RST t` (`44_control.md` R123). -/
def rstInstr : Index8 → Instr
  | .i0 => .rst00
  | .i1 => .rst08
  | .i2 => .rst10
  | .i3 => .rst18
  | .i4 => .rst20
  | .i5 => .rst28
  | .i6 => .rst30
  | .i7 => .rst38

/-- `RLC x` (`45_extended.md`). -/
def rlcInstr : Operand8 → Instr
  | .reg .b => .rlcB
  | .reg .c => .rlcC
  | .reg .d => .rlcD
  | .reg .e => .rlcE
  | .reg .h => .rlcH
  | .reg .l => .rlcL
  | .atHL => .rlcAtHL
  | .reg .a => .rlcA

/-- `RRC x` (`45_extended.md`). -/
def rrcInstr : Operand8 → Instr
  | .reg .b => .rrcB
  | .reg .c => .rrcC
  | .reg .d => .rrcD
  | .reg .e => .rrcE
  | .reg .h => .rrcH
  | .reg .l => .rrcL
  | .atHL => .rrcAtHL
  | .reg .a => .rrcA

/-- `RL x` (`45_extended.md`). -/
def rlInstr : Operand8 → Instr
  | .reg .b => .rlB
  | .reg .c => .rlC
  | .reg .d => .rlD
  | .reg .e => .rlE
  | .reg .h => .rlH
  | .reg .l => .rlL
  | .atHL => .rlAtHL
  | .reg .a => .rlA

/-- `RR x` (`45_extended.md`). -/
def rrInstr : Operand8 → Instr
  | .reg .b => .rrB
  | .reg .c => .rrC
  | .reg .d => .rrD
  | .reg .e => .rrE
  | .reg .h => .rrH
  | .reg .l => .rrL
  | .atHL => .rrAtHL
  | .reg .a => .rrA

/-- `SLA x` (`45_extended.md`). -/
def slaInstr : Operand8 → Instr
  | .reg .b => .slaB
  | .reg .c => .slaC
  | .reg .d => .slaD
  | .reg .e => .slaE
  | .reg .h => .slaH
  | .reg .l => .slaL
  | .atHL => .slaAtHL
  | .reg .a => .slaA

/-- `SRA x` (`45_extended.md`). -/
def sraInstr : Operand8 → Instr
  | .reg .b => .sraB
  | .reg .c => .sraC
  | .reg .d => .sraD
  | .reg .e => .sraE
  | .reg .h => .sraH
  | .reg .l => .sraL
  | .atHL => .sraAtHL
  | .reg .a => .sraA

/-- `SRL x` (`45_extended.md`). -/
def srlInstr : Operand8 → Instr
  | .reg .b => .srlB
  | .reg .c => .srlC
  | .reg .d => .srlD
  | .reg .e => .srlE
  | .reg .h => .srlH
  | .reg .l => .srlL
  | .atHL => .srlAtHL
  | .reg .a => .srlA

/-- `BIT b,x` (`45_extended.md`). -/
def bitInstr : Index8 → Operand8 → Instr
  | .i0, .reg .b => .bit0B
  | .i0, .reg .c => .bit0C
  | .i0, .reg .d => .bit0D
  | .i0, .reg .e => .bit0E
  | .i0, .reg .h => .bit0H
  | .i0, .reg .l => .bit0L
  | .i0, .atHL => .bit0AtHL
  | .i0, .reg .a => .bit0A
  | .i1, .reg .b => .bit1B
  | .i1, .reg .c => .bit1C
  | .i1, .reg .d => .bit1D
  | .i1, .reg .e => .bit1E
  | .i1, .reg .h => .bit1H
  | .i1, .reg .l => .bit1L
  | .i1, .atHL => .bit1AtHL
  | .i1, .reg .a => .bit1A
  | .i2, .reg .b => .bit2B
  | .i2, .reg .c => .bit2C
  | .i2, .reg .d => .bit2D
  | .i2, .reg .e => .bit2E
  | .i2, .reg .h => .bit2H
  | .i2, .reg .l => .bit2L
  | .i2, .atHL => .bit2AtHL
  | .i2, .reg .a => .bit2A
  | .i3, .reg .b => .bit3B
  | .i3, .reg .c => .bit3C
  | .i3, .reg .d => .bit3D
  | .i3, .reg .e => .bit3E
  | .i3, .reg .h => .bit3H
  | .i3, .reg .l => .bit3L
  | .i3, .atHL => .bit3AtHL
  | .i3, .reg .a => .bit3A
  | .i4, .reg .b => .bit4B
  | .i4, .reg .c => .bit4C
  | .i4, .reg .d => .bit4D
  | .i4, .reg .e => .bit4E
  | .i4, .reg .h => .bit4H
  | .i4, .reg .l => .bit4L
  | .i4, .atHL => .bit4AtHL
  | .i4, .reg .a => .bit4A
  | .i5, .reg .b => .bit5B
  | .i5, .reg .c => .bit5C
  | .i5, .reg .d => .bit5D
  | .i5, .reg .e => .bit5E
  | .i5, .reg .h => .bit5H
  | .i5, .reg .l => .bit5L
  | .i5, .atHL => .bit5AtHL
  | .i5, .reg .a => .bit5A
  | .i6, .reg .b => .bit6B
  | .i6, .reg .c => .bit6C
  | .i6, .reg .d => .bit6D
  | .i6, .reg .e => .bit6E
  | .i6, .reg .h => .bit6H
  | .i6, .reg .l => .bit6L
  | .i6, .atHL => .bit6AtHL
  | .i6, .reg .a => .bit6A
  | .i7, .reg .b => .bit7B
  | .i7, .reg .c => .bit7C
  | .i7, .reg .d => .bit7D
  | .i7, .reg .e => .bit7E
  | .i7, .reg .h => .bit7H
  | .i7, .reg .l => .bit7L
  | .i7, .atHL => .bit7AtHL
  | .i7, .reg .a => .bit7A

/-- `RES b,x` (`45_extended.md`). -/
def resInstr : Index8 → Operand8 → Instr
  | .i0, .reg .b => .res0B
  | .i0, .reg .c => .res0C
  | .i0, .reg .d => .res0D
  | .i0, .reg .e => .res0E
  | .i0, .reg .h => .res0H
  | .i0, .reg .l => .res0L
  | .i0, .atHL => .res0AtHL
  | .i0, .reg .a => .res0A
  | .i1, .reg .b => .res1B
  | .i1, .reg .c => .res1C
  | .i1, .reg .d => .res1D
  | .i1, .reg .e => .res1E
  | .i1, .reg .h => .res1H
  | .i1, .reg .l => .res1L
  | .i1, .atHL => .res1AtHL
  | .i1, .reg .a => .res1A
  | .i2, .reg .b => .res2B
  | .i2, .reg .c => .res2C
  | .i2, .reg .d => .res2D
  | .i2, .reg .e => .res2E
  | .i2, .reg .h => .res2H
  | .i2, .reg .l => .res2L
  | .i2, .atHL => .res2AtHL
  | .i2, .reg .a => .res2A
  | .i3, .reg .b => .res3B
  | .i3, .reg .c => .res3C
  | .i3, .reg .d => .res3D
  | .i3, .reg .e => .res3E
  | .i3, .reg .h => .res3H
  | .i3, .reg .l => .res3L
  | .i3, .atHL => .res3AtHL
  | .i3, .reg .a => .res3A
  | .i4, .reg .b => .res4B
  | .i4, .reg .c => .res4C
  | .i4, .reg .d => .res4D
  | .i4, .reg .e => .res4E
  | .i4, .reg .h => .res4H
  | .i4, .reg .l => .res4L
  | .i4, .atHL => .res4AtHL
  | .i4, .reg .a => .res4A
  | .i5, .reg .b => .res5B
  | .i5, .reg .c => .res5C
  | .i5, .reg .d => .res5D
  | .i5, .reg .e => .res5E
  | .i5, .reg .h => .res5H
  | .i5, .reg .l => .res5L
  | .i5, .atHL => .res5AtHL
  | .i5, .reg .a => .res5A
  | .i6, .reg .b => .res6B
  | .i6, .reg .c => .res6C
  | .i6, .reg .d => .res6D
  | .i6, .reg .e => .res6E
  | .i6, .reg .h => .res6H
  | .i6, .reg .l => .res6L
  | .i6, .atHL => .res6AtHL
  | .i6, .reg .a => .res6A
  | .i7, .reg .b => .res7B
  | .i7, .reg .c => .res7C
  | .i7, .reg .d => .res7D
  | .i7, .reg .e => .res7E
  | .i7, .reg .h => .res7H
  | .i7, .reg .l => .res7L
  | .i7, .atHL => .res7AtHL
  | .i7, .reg .a => .res7A

/-- `SET b,x` (`45_extended.md`). -/
def setInstr : Index8 → Operand8 → Instr
  | .i0, .reg .b => .set0B
  | .i0, .reg .c => .set0C
  | .i0, .reg .d => .set0D
  | .i0, .reg .e => .set0E
  | .i0, .reg .h => .set0H
  | .i0, .reg .l => .set0L
  | .i0, .atHL => .set0AtHL
  | .i0, .reg .a => .set0A
  | .i1, .reg .b => .set1B
  | .i1, .reg .c => .set1C
  | .i1, .reg .d => .set1D
  | .i1, .reg .e => .set1E
  | .i1, .reg .h => .set1H
  | .i1, .reg .l => .set1L
  | .i1, .atHL => .set1AtHL
  | .i1, .reg .a => .set1A
  | .i2, .reg .b => .set2B
  | .i2, .reg .c => .set2C
  | .i2, .reg .d => .set2D
  | .i2, .reg .e => .set2E
  | .i2, .reg .h => .set2H
  | .i2, .reg .l => .set2L
  | .i2, .atHL => .set2AtHL
  | .i2, .reg .a => .set2A
  | .i3, .reg .b => .set3B
  | .i3, .reg .c => .set3C
  | .i3, .reg .d => .set3D
  | .i3, .reg .e => .set3E
  | .i3, .reg .h => .set3H
  | .i3, .reg .l => .set3L
  | .i3, .atHL => .set3AtHL
  | .i3, .reg .a => .set3A
  | .i4, .reg .b => .set4B
  | .i4, .reg .c => .set4C
  | .i4, .reg .d => .set4D
  | .i4, .reg .e => .set4E
  | .i4, .reg .h => .set4H
  | .i4, .reg .l => .set4L
  | .i4, .atHL => .set4AtHL
  | .i4, .reg .a => .set4A
  | .i5, .reg .b => .set5B
  | .i5, .reg .c => .set5C
  | .i5, .reg .d => .set5D
  | .i5, .reg .e => .set5E
  | .i5, .reg .h => .set5H
  | .i5, .reg .l => .set5L
  | .i5, .atHL => .set5AtHL
  | .i5, .reg .a => .set5A
  | .i6, .reg .b => .set6B
  | .i6, .reg .c => .set6C
  | .i6, .reg .d => .set6D
  | .i6, .reg .e => .set6E
  | .i6, .reg .h => .set6H
  | .i6, .reg .l => .set6L
  | .i6, .atHL => .set6AtHL
  | .i6, .reg .a => .set6A
  | .i7, .reg .b => .set7B
  | .i7, .reg .c => .set7C
  | .i7, .reg .d => .set7D
  | .i7, .reg .e => .set7E
  | .i7, .reg .h => .set7H
  | .i7, .reg .l => .set7L
  | .i7, .atHL => .set7AtHL
  | .i7, .reg .a => .set7A

/-- The row of a rotate or shift (`45_extended.md` R130 to R143). -/
def shiftInstr : ShiftOp → Operand8 → Instr
  | .rlc, x => rlcInstr x
  | .rrc, x => rrcInstr x
  | .rl, x => rlInstr x
  | .rr, x => rrInstr x
  | .sla, x => slaInstr x
  | .sra, x => sraInstr x
  | .srl, x => srlInstr x

/-- The row of an extended operation (`30_encoding.md` R60). -/
def extInstr : ExtOp → Instr
  | .shift op x => shiftInstr op x
  | .bit b x => bitInstr b x
  | .res b x => resInstr b x
  | .set b x => setInstr b x

/-! ## Fields (`30_encoding.md` R51): x = bits 7:6, y = bits 5:3, z = bits 2:0, p = bits 5:4, q = bit 3 -/

/-- Field x, bits 7:6. -/
def fieldX (op : Byte) : Nat := op.toNat / 64
/-- Field y, bits 5:3. -/
def fieldY (op : Byte) : Nat := op.toNat / 8 % 8
/-- Field z, bits 2:0. -/
def fieldZ (op : Byte) : Nat := op.toNat % 8

/-- Register code (`30_encoding.md` R53); code 6 is no register. -/
def regOfCode : Nat → Option Reg
  | 0 => some .b
  | 1 => some .c
  | 2 => some .d
  | 3 => some .e
  | 4 => some .h
  | 5 => some .l
  | 7 => some .a
  | _ => none

/-- Operand code of the extended table (`30_encoding.md` R53, R60): code 6 is (HL). -/
def operandOfCode (z : Nat) : Operand8 :=
  match regOfCode z with
  | some r => .reg r
  | none => .atHL

/-- Pair code of `LD rr,nn`, `INC rr` (`30_encoding.md` R54); code 3 is SP, no pair. -/
def dataPairOfCode : Nat → Option DataPair
  | 0 => some .bc
  | 1 => some .de
  | 2 => some .hl
  | _ => none

/-- Pair code of `PUSH`, `POP` (`30_encoding.md` R54). -/
def stackPairOfCode : Nat → Pair
  | 0 => .bc
  | 1 => .de
  | 2 => .hl
  | _ => .af

/-- Condition code (`30_encoding.md` R55). -/
def condOfCode : Nat → Cond
  | 0 => .nz
  | 1 => .z
  | 2 => .nc
  | _ => .c

/-- A three-bit field as an index (`30_encoding.md` R56, R60). -/
def indexOfCode : Nat → Index8
  | 0 => .i0
  | 1 => .i1
  | 2 => .i2
  | 3 => .i3
  | 4 => .i4
  | 5 => .i5
  | 6 => .i6
  | _ => .i7

/-! ## The primary table (`30_encoding.md` R57 to R59) -/

/-- What the primary table holds for an opcode, by format (`30_encoding.md` R50): the instruction once its operand
bytes are given. -/
inductive Entry where
  | op (i : Instr)
  | opN8 (f : Byte → Instr)
  | opE8 (f : Byte → Instr)
  | opN16 (f : Word → Instr)
  | cbOp

/-- The length in bytes of a format (`30_encoding.md` R50). -/
def entryLength : Entry → Nat
  | .op _ => 1
  | .opN8 _ => 2
  | .opE8 _ => 2
  | .opN16 _ => 3
  | .cbOp => 2

/-- Block x = 0 of R58, column z = 0: `LD (nn),SP`, `JR e`, `JR cc,e`. -/
def entryX0Z0 : Nat → Option Entry
  | 1 => some (.opN16 .ldAtImmFromSP)
  | 3 => some (.opE8 .jr)
  | 4 => some (.opE8 (jrCondInstr (condOfCode 0)))
  | 5 => some (.opE8 (jrCondInstr (condOfCode 1)))
  | 6 => some (.opE8 (jrCondInstr (condOfCode 2)))
  | 7 => some (.opE8 (jrCondInstr (condOfCode 3)))
  | _ => none

/-- Block x = 0, column z = 1, q = 0: `LD rr,nn`, `LD SP,nn`. -/
def entryX0Z1 (y : Nat) : Option Entry :=
  if y % 2 = 0 then
    match dataPairOfCode (y / 2) with
    | some p => some (.opN16 (ldPairImmInstr p))
    | none => some (.opN16 .ldSPImm)
  else none

/-- Block x = 0, column z = 2: the accumulator loads through BC, DE and the HL auto-step loads. -/
def entryX0Z2 : Nat → Option Entry
  | 1 => some (.op (ldAFromAtInstr .bc))
  | 3 => some (.op (ldAFromAtInstr .de))
  | 4 => some (.op .ldAtHLIncFromA)
  | 5 => some (.op .ldAFromAtHLInc)
  | 6 => some (.op .ldAtHLDecFromA)
  | 7 => some (.op .ldAFromAtHLDec)
  | _ => none

/-- Block x = 0, column z = 3, q = 0: `INC rr`. -/
def entryX0Z3 (y : Nat) : Option Entry :=
  if y % 2 = 0 then (dataPairOfCode (y / 2)).map fun p => .op (incPairInstr p) else none

/-- Block x = 0, column z = 6: `LD r,n`, and `LD (HL),n` for code 6. -/
def entryX0Z6 (y : Nat) : Entry :=
  match regOfCode y with
  | some r => .opN8 (ldImmInstr r)
  | none => .opN8 .ldAtHLImm

/-- Block x = 0 of the primary map (`30_encoding.md` R58, rows 0x to 3x). -/
def entryX0 (y : Nat) : Nat → Option Entry
  | 0 => entryX0Z0 y
  | 1 => entryX0Z1 y
  | 2 => entryX0Z2 y
  | 3 => entryX0Z3 y
  | 4 => (regOfCode y).map fun r => .op (incInstr r)
  | 5 => (regOfCode y).map fun r => .op (decInstr r)
  | 6 => some (entryX0Z6 y)
  | _ => if y = 2 then some (.op .rlaAcc) else none

/-- Block x = 1 (`30_encoding.md` R58, rows 4x to 7x): `LD r,r'` and, for y = 7 and z = 6, `LD A,(HL)`. -/
def entryX1 (y z : Nat) : Option Entry :=
  match regOfCode y, regOfCode z with
  | some r, some r' => some (.op (ldInstr r r'))
  | some .a, none => some (.op (ldAFromAtInstr .hl))
  | _, _ => none

/-- Block x = 2 (`30_encoding.md` R58, rows 8x to Bx): `XOR r`. -/
def entryX2 (y z : Nat) : Option Entry :=
  if y = 5 then (regOfCode z).map fun r => .op (xorInstr r) else none

/-- Block x = 3 (`30_encoding.md` R58, rows Cx to Fx). -/
def entryX3 (y : Nat) : Nat → Option Entry
  | 0 => if y = 4 then some (.opN8 .ldHighImmFromA) else if y = 6 then some (.opN8 .ldAFromHighImm) else none
  | 1 => if y % 2 = 0 then some (.op (popInstr (stackPairOfCode (y / 2)))) else none
  | 2 => if y = 4 then some (.op .ldHighCFromA) else if y = 6 then some (.op .ldAFromHighC) else none
  | 3 => if y = 1 then some .cbOp else none
  | 5 => if y % 2 = 0 then some (.op (pushInstr (stackPairOfCode (y / 2)))) else if y = 1 then some (.opN16 .call) else none
  | 7 => some (.op (rstInstr (indexOfCode y)))
  | _ => none

/-- The primary opcode table (`30_encoding.md` R57 to R59); none is an undefined opcode (R62). -/
def primaryEntry (op : Byte) : Option Entry :=
  match fieldX op with
  | 0 => entryX0 (fieldY op) (fieldZ op)
  | 1 => entryX1 (fieldY op) (fieldZ op)
  | 2 => entryX2 (fieldY op) (fieldZ op)
  | _ => entryX3 (fieldY op) (fieldZ op)

/-- The length that the primary opcode alone gives an instruction (`30_encoding.md` R50); 0 where it is undefined. -/
def primaryLength (op : Byte) : Nat :=
  match primaryEntry op with
  | some entry => entryLength entry
  | none => 0

/-! ## The extended table (`30_encoding.md` R60) -/

/-- Group 0 of the extended table; y = 6 (0x30 to 0x37) has no entry. -/
def shiftOfCode : Nat → Option ShiftOp
  | 0 => some .rlc
  | 1 => some .rrc
  | 2 => some .rl
  | 3 => some .rr
  | 4 => some .sla
  | 5 => some .sra
  | 7 => some .srl
  | _ => none

/-- The extended operation a byte after 0xCB selects (`30_encoding.md` R60); none for 0x30 to 0x37 (R62). -/
def extOpOfByte (ext : Byte) : Option ExtOp :=
  match fieldX ext with
  | 0 => (shiftOfCode (fieldY ext)).map fun op => .shift op (operandOfCode (fieldZ ext))
  | 1 => some (.bit (indexOfCode (fieldY ext)) (operandOfCode (fieldZ ext)))
  | 2 => some (.res (indexOfCode (fieldY ext)) (operandOfCode (fieldZ ext)))
  | _ => some (.set (indexOfCode (fieldY ext)) (operandOfCode (fieldZ ext)))

/-- The row that 0xCB and the byte after it name: the extended row, or the prefix row itself where the extended table
has no entry, whose meaning then raises the fault of `44_control.md` R124. -/
def extInstrOfByte (ext : Byte) : Instr :=
  match extOpOfByte ext with
  | some op => extInstr op
  | none => .prefixCB ext

/-! ## The decoder (`30_encoding.md` R57) -/

/-- Why a sequence of bytes is no instruction. -/
inductive DecodeError where
  /-- The first byte has no entry in the primary table (`30_encoding.md` R62). -/
  | unimplementedOpcode (op : Byte)
  /-- The instruction needs a byte at this offset from its first byte, and there is none. -/
  | missingByte (index : Nat)
  deriving DecidableEq, Repr

/-- The instruction at the head of a list of bytes, with the bytes after it (`30_encoding.md` R52, R57). The opcode is
looked up before any operand byte is asked for (`60_exceptions.md` R166). -/
def decode : List Byte → Except DecodeError (Instr × List Byte)
  | [] => .error (.missingByte 0)
  | op :: rest =>
    match primaryEntry op, rest with
    | none, _ => .error (.unimplementedOpcode op)
    | some (.op i), _ => .ok (i, rest)
    | some (.opN8 f), n :: rest' => .ok (f n, rest')
    | some (.opN8 _), [] => .error (.missingByte 1)
    | some (.opE8 f), e :: rest' => .ok (f e, rest')
    | some (.opE8 _), [] => .error (.missingByte 1)
    | some (.opN16 f), lo :: hi :: rest' => .ok (f (wordOf hi lo), rest')
    | some (.opN16 _), [_] => .error (.missingByte 2)
    | some (.opN16 _), [] => .error (.missingByte 1)
    | some .cbOp, ext :: rest' => .ok (extInstrOfByte ext, rest')
    | some .cbOp, [] => .error (.missingByte 1)

/-- The three bytes of a table word: bit 0 is the least significant bit of the first byte, the bits above nbits are 0. -/
def tableWordBytes (nbits w : Nat) : List Byte :=
  let v := w % 2 ^ nbits
  [BitVec.ofNat 8 v, BitVec.ofNat 8 (v / 256), BitVec.ofNat 8 (v / 65536)]

/-- The instruction the decoder reads from a table word. An extended row's bytes are 0xCB and the extended byte
(`30_encoding.md`, the guide at its top; R57, R60), so its word is 0xCB in bits 7:0 and the extended byte in bits 15:8. -/
def decodeTableWord (nbits w : Nat) : Option Instr :=
  match decode (tableWordBytes nbits w) with
  | .ok (i, _) => some i
  | .error _ => none

/-! ## The encoder, from the numbers of `spec/opcode_table.json` -/

/-- The bytes of an instruction in ascending address order (`30_encoding.md` R50, R52; `spec/opcode_table.json`). -/
def encode : Instr → List Byte
  | .pushBC => [0xC5]
  | .popBC => [0xC1]
  | .pushDE => [0xD5]
  | .popDE => [0xD1]
  | .pushHL => [0xE5]
  | .popHL => [0xE1]
  | .pushAF => [0xF5]
  | .popAF => [0xF1]
  | .ldBFromB => [0x40]
  | .ldBFromC => [0x41]
  | .ldBFromD => [0x42]
  | .ldBFromE => [0x43]
  | .ldBFromH => [0x44]
  | .ldBFromL => [0x45]
  | .ldBFromA => [0x47]
  | .ldCFromB => [0x48]
  | .ldCFromC => [0x49]
  | .ldCFromD => [0x4A]
  | .ldCFromE => [0x4B]
  | .ldCFromH => [0x4C]
  | .ldCFromL => [0x4D]
  | .ldCFromA => [0x4F]
  | .ldDFromB => [0x50]
  | .ldDFromC => [0x51]
  | .ldDFromD => [0x52]
  | .ldDFromE => [0x53]
  | .ldDFromH => [0x54]
  | .ldDFromL => [0x55]
  | .ldDFromA => [0x57]
  | .ldEFromB => [0x58]
  | .ldEFromC => [0x59]
  | .ldEFromD => [0x5A]
  | .ldEFromE => [0x5B]
  | .ldEFromH => [0x5C]
  | .ldEFromL => [0x5D]
  | .ldEFromA => [0x5F]
  | .ldHFromB => [0x60]
  | .ldHFromC => [0x61]
  | .ldHFromD => [0x62]
  | .ldHFromE => [0x63]
  | .ldHFromH => [0x64]
  | .ldHFromL => [0x65]
  | .ldHFromA => [0x67]
  | .ldLFromB => [0x68]
  | .ldLFromC => [0x69]
  | .ldLFromD => [0x6A]
  | .ldLFromE => [0x6B]
  | .ldLFromH => [0x6C]
  | .ldLFromL => [0x6D]
  | .ldLFromA => [0x6F]
  | .ldAFromB => [0x78]
  | .ldAFromC => [0x79]
  | .ldAFromD => [0x7A]
  | .ldAFromE => [0x7B]
  | .ldAFromH => [0x7C]
  | .ldAFromL => [0x7D]
  | .ldAFromA => [0x7F]
  | .ldAtImmFromSP nn => [0x08, lowByte nn, highByte nn]
  | .incB => [0x04]
  | .decB => [0x05]
  | .ldBImm n => [0x06, n]
  | .incC => [0x0C]
  | .decC => [0x0D]
  | .ldCImm n => [0x0E, n]
  | .incD => [0x14]
  | .decD => [0x15]
  | .ldDImm n => [0x16, n]
  | .incE => [0x1C]
  | .decE => [0x1D]
  | .ldEImm n => [0x1E, n]
  | .incH => [0x24]
  | .decH => [0x25]
  | .ldHImm n => [0x26, n]
  | .incL => [0x2C]
  | .decL => [0x2D]
  | .ldLImm n => [0x2E, n]
  | .incA => [0x3C]
  | .decA => [0x3D]
  | .ldAImm n => [0x3E, n]
  | .ldAtHLImm n => [0x36, n]
  | .ldBCImm nn => [0x01, lowByte nn, highByte nn]
  | .ldDEImm nn => [0x11, lowByte nn, highByte nn]
  | .ldHLImm nn => [0x21, lowByte nn, highByte nn]
  | .ldSPImm nn => [0x31, lowByte nn, highByte nn]
  | .ldAFromAtBC => [0x0A]
  | .ldAFromAtDE => [0x1A]
  | .ldAFromAtHL => [0x7E]
  | .jr e => [0x18, e]
  | .jrNZ e => [0x20, e]
  | .jrZ e => [0x28, e]
  | .jrNC e => [0x30, e]
  | .jrC e => [0x38, e]
  | .ldAtHLIncFromA => [0x22]
  | .ldAtHLDecFromA => [0x32]
  | .ldAFromAtHLInc => [0x2A]
  | .ldAFromAtHLDec => [0x3A]
  | .incBC => [0x03]
  | .incDE => [0x13]
  | .incHL => [0x23]
  | .xorB => [0xA8]
  | .xorC => [0xA9]
  | .xorD => [0xAA]
  | .xorE => [0xAB]
  | .xorH => [0xAC]
  | .xorL => [0xAD]
  | .xorA => [0xAF]
  | .rst00 => [0xC7]
  | .rst08 => [0xCF]
  | .rst10 => [0xD7]
  | .rst18 => [0xDF]
  | .rst20 => [0xE7]
  | .rst28 => [0xEF]
  | .rst30 => [0xF7]
  | .rst38 => [0xFF]
  | .ldHighImmFromA n => [0xE0, n]
  | .ldAFromHighImm n => [0xF0, n]
  | .ldHighCFromA => [0xE2]
  | .ldAFromHighC => [0xF2]
  | .rlaAcc => [0x17]
  | .call nn => [0xCD, lowByte nn, highByte nn]
  | .prefixCB ext => [0xCB, ext]
  | .rlcB => [0xCB, 0x00]
  | .rlcC => [0xCB, 0x01]
  | .rlcD => [0xCB, 0x02]
  | .rlcE => [0xCB, 0x03]
  | .rlcH => [0xCB, 0x04]
  | .rlcL => [0xCB, 0x05]
  | .rlcAtHL => [0xCB, 0x06]
  | .rlcA => [0xCB, 0x07]
  | .rrcB => [0xCB, 0x08]
  | .rrcC => [0xCB, 0x09]
  | .rrcD => [0xCB, 0x0A]
  | .rrcE => [0xCB, 0x0B]
  | .rrcH => [0xCB, 0x0C]
  | .rrcL => [0xCB, 0x0D]
  | .rrcAtHL => [0xCB, 0x0E]
  | .rrcA => [0xCB, 0x0F]
  | .rlB => [0xCB, 0x10]
  | .rlC => [0xCB, 0x11]
  | .rlD => [0xCB, 0x12]
  | .rlE => [0xCB, 0x13]
  | .rlH => [0xCB, 0x14]
  | .rlL => [0xCB, 0x15]
  | .rlAtHL => [0xCB, 0x16]
  | .rlA => [0xCB, 0x17]
  | .rrB => [0xCB, 0x18]
  | .rrC => [0xCB, 0x19]
  | .rrD => [0xCB, 0x1A]
  | .rrE => [0xCB, 0x1B]
  | .rrH => [0xCB, 0x1C]
  | .rrL => [0xCB, 0x1D]
  | .rrAtHL => [0xCB, 0x1E]
  | .rrA => [0xCB, 0x1F]
  | .slaB => [0xCB, 0x20]
  | .slaC => [0xCB, 0x21]
  | .slaD => [0xCB, 0x22]
  | .slaE => [0xCB, 0x23]
  | .slaH => [0xCB, 0x24]
  | .slaL => [0xCB, 0x25]
  | .slaAtHL => [0xCB, 0x26]
  | .slaA => [0xCB, 0x27]
  | .sraB => [0xCB, 0x28]
  | .sraC => [0xCB, 0x29]
  | .sraD => [0xCB, 0x2A]
  | .sraE => [0xCB, 0x2B]
  | .sraH => [0xCB, 0x2C]
  | .sraL => [0xCB, 0x2D]
  | .sraAtHL => [0xCB, 0x2E]
  | .sraA => [0xCB, 0x2F]
  | .srlB => [0xCB, 0x38]
  | .srlC => [0xCB, 0x39]
  | .srlD => [0xCB, 0x3A]
  | .srlE => [0xCB, 0x3B]
  | .srlH => [0xCB, 0x3C]
  | .srlL => [0xCB, 0x3D]
  | .srlAtHL => [0xCB, 0x3E]
  | .srlA => [0xCB, 0x3F]
  | .bit0B => [0xCB, 0x40]
  | .bit0C => [0xCB, 0x41]
  | .bit0D => [0xCB, 0x42]
  | .bit0E => [0xCB, 0x43]
  | .bit0H => [0xCB, 0x44]
  | .bit0L => [0xCB, 0x45]
  | .bit0AtHL => [0xCB, 0x46]
  | .bit0A => [0xCB, 0x47]
  | .bit1B => [0xCB, 0x48]
  | .bit1C => [0xCB, 0x49]
  | .bit1D => [0xCB, 0x4A]
  | .bit1E => [0xCB, 0x4B]
  | .bit1H => [0xCB, 0x4C]
  | .bit1L => [0xCB, 0x4D]
  | .bit1AtHL => [0xCB, 0x4E]
  | .bit1A => [0xCB, 0x4F]
  | .bit2B => [0xCB, 0x50]
  | .bit2C => [0xCB, 0x51]
  | .bit2D => [0xCB, 0x52]
  | .bit2E => [0xCB, 0x53]
  | .bit2H => [0xCB, 0x54]
  | .bit2L => [0xCB, 0x55]
  | .bit2AtHL => [0xCB, 0x56]
  | .bit2A => [0xCB, 0x57]
  | .bit3B => [0xCB, 0x58]
  | .bit3C => [0xCB, 0x59]
  | .bit3D => [0xCB, 0x5A]
  | .bit3E => [0xCB, 0x5B]
  | .bit3H => [0xCB, 0x5C]
  | .bit3L => [0xCB, 0x5D]
  | .bit3AtHL => [0xCB, 0x5E]
  | .bit3A => [0xCB, 0x5F]
  | .bit4B => [0xCB, 0x60]
  | .bit4C => [0xCB, 0x61]
  | .bit4D => [0xCB, 0x62]
  | .bit4E => [0xCB, 0x63]
  | .bit4H => [0xCB, 0x64]
  | .bit4L => [0xCB, 0x65]
  | .bit4AtHL => [0xCB, 0x66]
  | .bit4A => [0xCB, 0x67]
  | .bit5B => [0xCB, 0x68]
  | .bit5C => [0xCB, 0x69]
  | .bit5D => [0xCB, 0x6A]
  | .bit5E => [0xCB, 0x6B]
  | .bit5H => [0xCB, 0x6C]
  | .bit5L => [0xCB, 0x6D]
  | .bit5AtHL => [0xCB, 0x6E]
  | .bit5A => [0xCB, 0x6F]
  | .bit6B => [0xCB, 0x70]
  | .bit6C => [0xCB, 0x71]
  | .bit6D => [0xCB, 0x72]
  | .bit6E => [0xCB, 0x73]
  | .bit6H => [0xCB, 0x74]
  | .bit6L => [0xCB, 0x75]
  | .bit6AtHL => [0xCB, 0x76]
  | .bit6A => [0xCB, 0x77]
  | .bit7B => [0xCB, 0x78]
  | .bit7C => [0xCB, 0x79]
  | .bit7D => [0xCB, 0x7A]
  | .bit7E => [0xCB, 0x7B]
  | .bit7H => [0xCB, 0x7C]
  | .bit7L => [0xCB, 0x7D]
  | .bit7AtHL => [0xCB, 0x7E]
  | .bit7A => [0xCB, 0x7F]
  | .res0B => [0xCB, 0x80]
  | .res0C => [0xCB, 0x81]
  | .res0D => [0xCB, 0x82]
  | .res0E => [0xCB, 0x83]
  | .res0H => [0xCB, 0x84]
  | .res0L => [0xCB, 0x85]
  | .res0AtHL => [0xCB, 0x86]
  | .res0A => [0xCB, 0x87]
  | .res1B => [0xCB, 0x88]
  | .res1C => [0xCB, 0x89]
  | .res1D => [0xCB, 0x8A]
  | .res1E => [0xCB, 0x8B]
  | .res1H => [0xCB, 0x8C]
  | .res1L => [0xCB, 0x8D]
  | .res1AtHL => [0xCB, 0x8E]
  | .res1A => [0xCB, 0x8F]
  | .res2B => [0xCB, 0x90]
  | .res2C => [0xCB, 0x91]
  | .res2D => [0xCB, 0x92]
  | .res2E => [0xCB, 0x93]
  | .res2H => [0xCB, 0x94]
  | .res2L => [0xCB, 0x95]
  | .res2AtHL => [0xCB, 0x96]
  | .res2A => [0xCB, 0x97]
  | .res3B => [0xCB, 0x98]
  | .res3C => [0xCB, 0x99]
  | .res3D => [0xCB, 0x9A]
  | .res3E => [0xCB, 0x9B]
  | .res3H => [0xCB, 0x9C]
  | .res3L => [0xCB, 0x9D]
  | .res3AtHL => [0xCB, 0x9E]
  | .res3A => [0xCB, 0x9F]
  | .res4B => [0xCB, 0xA0]
  | .res4C => [0xCB, 0xA1]
  | .res4D => [0xCB, 0xA2]
  | .res4E => [0xCB, 0xA3]
  | .res4H => [0xCB, 0xA4]
  | .res4L => [0xCB, 0xA5]
  | .res4AtHL => [0xCB, 0xA6]
  | .res4A => [0xCB, 0xA7]
  | .res5B => [0xCB, 0xA8]
  | .res5C => [0xCB, 0xA9]
  | .res5D => [0xCB, 0xAA]
  | .res5E => [0xCB, 0xAB]
  | .res5H => [0xCB, 0xAC]
  | .res5L => [0xCB, 0xAD]
  | .res5AtHL => [0xCB, 0xAE]
  | .res5A => [0xCB, 0xAF]
  | .res6B => [0xCB, 0xB0]
  | .res6C => [0xCB, 0xB1]
  | .res6D => [0xCB, 0xB2]
  | .res6E => [0xCB, 0xB3]
  | .res6H => [0xCB, 0xB4]
  | .res6L => [0xCB, 0xB5]
  | .res6AtHL => [0xCB, 0xB6]
  | .res6A => [0xCB, 0xB7]
  | .res7B => [0xCB, 0xB8]
  | .res7C => [0xCB, 0xB9]
  | .res7D => [0xCB, 0xBA]
  | .res7E => [0xCB, 0xBB]
  | .res7H => [0xCB, 0xBC]
  | .res7L => [0xCB, 0xBD]
  | .res7AtHL => [0xCB, 0xBE]
  | .res7A => [0xCB, 0xBF]
  | .set0B => [0xCB, 0xC0]
  | .set0C => [0xCB, 0xC1]
  | .set0D => [0xCB, 0xC2]
  | .set0E => [0xCB, 0xC3]
  | .set0H => [0xCB, 0xC4]
  | .set0L => [0xCB, 0xC5]
  | .set0AtHL => [0xCB, 0xC6]
  | .set0A => [0xCB, 0xC7]
  | .set1B => [0xCB, 0xC8]
  | .set1C => [0xCB, 0xC9]
  | .set1D => [0xCB, 0xCA]
  | .set1E => [0xCB, 0xCB]
  | .set1H => [0xCB, 0xCC]
  | .set1L => [0xCB, 0xCD]
  | .set1AtHL => [0xCB, 0xCE]
  | .set1A => [0xCB, 0xCF]
  | .set2B => [0xCB, 0xD0]
  | .set2C => [0xCB, 0xD1]
  | .set2D => [0xCB, 0xD2]
  | .set2E => [0xCB, 0xD3]
  | .set2H => [0xCB, 0xD4]
  | .set2L => [0xCB, 0xD5]
  | .set2AtHL => [0xCB, 0xD6]
  | .set2A => [0xCB, 0xD7]
  | .set3B => [0xCB, 0xD8]
  | .set3C => [0xCB, 0xD9]
  | .set3D => [0xCB, 0xDA]
  | .set3E => [0xCB, 0xDB]
  | .set3H => [0xCB, 0xDC]
  | .set3L => [0xCB, 0xDD]
  | .set3AtHL => [0xCB, 0xDE]
  | .set3A => [0xCB, 0xDF]
  | .set4B => [0xCB, 0xE0]
  | .set4C => [0xCB, 0xE1]
  | .set4D => [0xCB, 0xE2]
  | .set4E => [0xCB, 0xE3]
  | .set4H => [0xCB, 0xE4]
  | .set4L => [0xCB, 0xE5]
  | .set4AtHL => [0xCB, 0xE6]
  | .set4A => [0xCB, 0xE7]
  | .set5B => [0xCB, 0xE8]
  | .set5C => [0xCB, 0xE9]
  | .set5D => [0xCB, 0xEA]
  | .set5E => [0xCB, 0xEB]
  | .set5H => [0xCB, 0xEC]
  | .set5L => [0xCB, 0xED]
  | .set5AtHL => [0xCB, 0xEE]
  | .set5A => [0xCB, 0xEF]
  | .set6B => [0xCB, 0xF0]
  | .set6C => [0xCB, 0xF1]
  | .set6D => [0xCB, 0xF2]
  | .set6E => [0xCB, 0xF3]
  | .set6H => [0xCB, 0xF4]
  | .set6L => [0xCB, 0xF5]
  | .set6AtHL => [0xCB, 0xF6]
  | .set6A => [0xCB, 0xF7]
  | .set7B => [0xCB, 0xF8]
  | .set7C => [0xCB, 0xF9]
  | .set7D => [0xCB, 0xFA]
  | .set7E => [0xCB, 0xFB]
  | .set7H => [0xCB, 0xFC]
  | .set7L => [0xCB, 0xFD]
  | .set7AtHL => [0xCB, 0xFE]
  | .set7A => [0xCB, 0xFF]

end Sys2Proof
end

