-- ==== Sys2Proof/Config.lean ====
section
/-! DEFINITION. The values the spec leaves open and gives no default for. -/

namespace Sys2Proof

/-- FREE VALUE (log entry 6): whether the core clears the step-acknowledged flag at the k-th instruction of a run.
`10_state.md` R21 says only that the core never mutates the host's flags "except to clear an acknowledged-step flag",
and `91_not_in_source.md` N6 that nothing says when. No body: nothing can be proved of its value. -/
opaque Config.stepAckClears : Nat → Bool

end Sys2Proof
end

