-- ==== Sys2Proof/Machine/State.lean ====
section
/-! DEFINITION. The state of the block as plain data (`10_state.md`, all of it), its reset value (R24), and the reasons a
step can stop. -/

namespace Sys2Proof.Machine

/-- The Memory Space of `10_state.md` R23: the bytes that differ from what an unlisted address reads as, addresses
strictly rising. -/
abbrev Memory := List Host.Cell

/-- What an address that is not listed reads as: 0x00, the reset contents of memory (`10_state.md` R24, D12). -/
def unlistedByte : BitVec 8 := 0

/-- The canonical form above a lower bound: addresses strictly rising from `lo`, below 65536, no entry equal to
`unlistedByte`. -/
def Memory.wfFrom : Nat → Memory → Bool
  | _, [] => true
  | lo, (a, v) :: m => decide (lo ≤ a) && decide (a < 65536) && decide (v ≠ unlistedByte) && Memory.wfFrom (a + 1) m

/-- The canonical form of memory: equal memories are equal lists. -/
def Memory.wf (m : Memory) : Bool := Memory.wfFrom 0 m

/-- The three faults of `60_exceptions.md` R160, each with the value its record holds (R164). -/
inductive FaultKind where
  /-- R161: raised by the loop for a primary opcode without an entry and by `44_control.md` R124 for an extended byte
  without one. -/
  | unimplementedOpcode (op : Byte)
  /-- R162: raised by a byte access whose integer address is below 0 or above 0xFFFF. -/
  | addressOutOfRange (addr : Int)
  /-- R163: in the taxonomy of the spec, raised by no instruction (D21). -/
  | invalidRegisterName (name : String)
  deriving DecidableEq, Repr

/-- The fault record of `10_state.md` R20: the kind with its value, and the PC of the instruction (R164). -/
structure FaultRecord where
  kind : FaultKind
  pc : Word
  deriving DecidableEq, Repr

/-- The run state of `10_state.md` R20; the fault record is kept with `FAULTED`. -/
inductive RunState where
  | running
  | stopped
  | faulted (record : FaultRecord)
  deriving DecidableEq, Repr

/-- What the host drives before one later instruction (`10_state.md` R21): the run flag, which is the sample
`RUN_FLAG(k)` of `00_scope.md` R5, and whether it raises the step-acknowledged flag. -/
structure HostSample where
  runFlag : Bool
  raiseStepAck : Bool
  deriving DecidableEq, Repr

/-- All the state of the block (`10_state.md`). -/
structure State where
  /-- Register B (R10). -/
  b : Byte
  /-- Register C (R10). -/
  c : Byte
  /-- Register D (R10). -/
  d : Byte
  /-- Register E (R10). -/
  e : Byte
  /-- Register H (R10). -/
  h : Byte
  /-- Register L (R10). -/
  l : Byte
  /-- The accumulator A (R10). -/
  a : Byte
  /-- F, the packed flags (R10, R14, R15). -/
  f : Byte
  /-- The program counter (R12). -/
  pc : Word
  /-- The stack pointer (R13). -/
  sp : Word
  /-- The Memory Space (R23). -/
  mem : Memory
  /-- The run state with its fault record (R20). -/
  runState : RunState
  /-- The run flag the host drives now (R21, R71). -/
  runFlag : Bool
  /-- The step-acknowledged flag (R21). -/
  stepAck : Bool
  /-- What the host drives before the later instructions, the next one first; when it is empty the flags keep their
  values (`00_scope.md` R5 `RUN_FLAG(k)`, log entry 4). -/
  hostNext : List HostSample
  /-- The parameter `RST_PUSH_DELTA` (`00_scope.md` R5, `44_control.md` R123): true is 1. No step changes it
  (log entry 5). -/
  rstPushDelta : Bool
  /-- The model's own field: the index of the next free value of `Config.stepAckClears` (log entry 6). -/
  freeIndex : Nat
  deriving DecidableEq, Repr

/-- Reasons for a step to stop outside the spec's own run states. There is none: every fault of the spec is a next
state whose run state is `FAULTED` (`60_exceptions.md` R160, log entry 1), so this type has no constructor and nothing
raises it. -/
inductive Fault
  deriving DecidableEq, Repr

/-- Reasons for a step to have no meaning. -/
inductive Refusal where
  /-- Raised only by an arm of `exec` whose instruction has no meaning yet; no arm raises it now. Safe: the model stops
  where the hardware goes on. -/
  | notModelled (mnemonic : String)
  deriving DecidableEq, Repr

/-- The state right after reset (`10_state.md` R24; `70_reset_and_hazards.md` R185, R186), with the loop started. -/
def State.reset : State where
  b := 0
  c := 0
  d := 0
  e := 0
  h := 0
  l := 0
  a := 0
  f := 0
  pc := 0
  sp := 0
  mem := []
  runState := .running
  runFlag := true
  stepAck := false
  hostNext := []
  rstPushDelta := false
  freeIndex := 0

end Sys2Proof.Machine
end

