-- ==== Sys2Proof/Machine/Ops.lean ====
section
/-! DEFINITION. The named operations over memory and registers (`00_scope.md` R7), raising a fault (`60_exceptions.md`
R160), and the stack helpers (`41_stack.md` R82, R83). -/

namespace Sys2Proof.Machine

/-- The outcome of a step or of an instruction. -/
abbrev Out := Host.Outcome State Fault Refusal

/-! ## Memory cells -/

/-- The byte at an address of the array `mem` (`10_state.md` R23). -/
def readCell : Memory → Nat → Byte
  | [], _ => unlistedByte
  | (x, v) :: m, a => if a = x then v else readCell m a

/-- The array `mem` after the byte at `a` became `v`, in canonical form. -/
def writeCell : Memory → Nat → Byte → Memory
  | [], a, v => if v = unlistedByte then [] else [(a, v)]
  | (x, w) :: m, a, v =>
    if a < x then (if v = unlistedByte then (x, w) :: m else (a, v) :: (x, w) :: m)
    else if a = x then (if v = unlistedByte then m else (a, v) :: m)
    else (x, w) :: writeCell m a v

/-- The byte of memory at an address, as a state holds it. -/
def State.byteAt (s : State) (a : Nat) : Byte := readCell s.mem a

/-- The state after the byte at `a` became `v`, nothing else changed (`20_memory.md` R30). -/
def State.store (s : State) (a : Nat) (v : Byte) : State := { s with mem := writeCell s.mem a v }

/-! ## Registers -/

/-- `R[r]` (`00_scope.md` R7). -/
def State.reg (s : State) : Reg → Byte
  | .b => s.b
  | .c => s.c
  | .d => s.d
  | .e => s.e
  | .h => s.h
  | .l => s.l
  | .a => s.a

/-- `R[r] <- v` (`00_scope.md` R7). -/
def State.setReg (s : State) (r : Reg) (v : Byte) : State :=
  match r with
  | .b => { s with b := v }
  | .c => { s with c := v }
  | .d => { s with d := v }
  | .e => { s with e := v }
  | .h => { s with h := v }
  | .l => { s with l := v }
  | .a => { s with a := v }

/-- `RR[p]`, the first-named register the high byte (`10_state.md` R11). -/
def State.pair (s : State) : Pair → Word
  | .bc => wordOf s.b s.c
  | .de => wordOf s.d s.e
  | .hl => wordOf s.h s.l
  | .af => wordOf s.a s.f

/-- `RR[p] <- v`: both halves are written (`10_state.md` R11). -/
def State.setPair (s : State) (p : Pair) (v : Word) : State :=
  match p with
  | .bc => { s with b := highByte v, c := lowByte v }
  | .de => { s with d := highByte v, e := lowByte v }
  | .hl => { s with h := highByte v, l := lowByte v }
  | .af => { s with a := highByte v, f := lowByte v }

/-- A pair operand of a load or of `INC rr` as a pair (`30_encoding.md` R54). -/
def pairOf : DataPair → Pair
  | .bc => .bc
  | .de => .de
  | .hl => .hl

/-- `pc <- v` (`00_scope.md` R7). -/
def State.setPc (s : State) (v : Word) : State := { s with pc := v }

/-- `sp <- v` (`00_scope.md` R7). -/
def State.setSp (s : State) (v : Word) : State := { s with sp := v }

/-- `pc <- pc + len`, modulo 65536 (`10_state.md` R12, `40_fetch_execute.md` R72). -/
def State.advance (s : State) (len : Word) : State := s.setPc (s.pc + len)

/-! ## Raising a fault and checked byte accesses -/

/-- Raising a fault (`60_exceptions.md` R160): the instruction ends here, the run state becomes `FAULTED`, and the
record holds the kind with its value and the PC, which no instruction has written yet (R165). What was written before
stays. -/
def raise (k : FaultKind) (s : State) : Out := .next { s with runState := .faulted ⟨k, s.pc⟩ }

/-- An address an access may have: 0 to 0xFFFF (`20_memory.md` R31). -/
def inRange (addr : Int) : Bool := decide (0 ≤ addr) && decide (addr ≤ 0xFFFF)

/-- `MemRead(addr, 1)` and what follows it (`20_memory.md` R30, R31, R36): addr is an unbounded integer. -/
def withRead (addr : Int) (s : State) (k : Byte → Out) : Out :=
  if inRange addr then k (s.byteAt addr.toNat) else raise (.addressOutOfRange addr) s

/-- `MemWrite(addr, 1, v)` and what follows it (`20_memory.md` R30, R31, R36). -/
def withWrite (addr : Int) (v : Byte) (s : State) (k : State → Out) : Out :=
  if inRange addr then k (s.store addr.toNat v) else raise (.addressOutOfRange addr) s

/-! ## The stack -/

/-- The integer value of a 16-bit register, from which an address is computed without wrapping (`20_memory.md` R36). -/
def addrOf (v : Word) : Int := v.toNat

/-- `Push16(v)` and what follows it (`41_stack.md` R82): the high byte at sp - 1, the low byte at sp - 2, then sp. -/
def push16 (v : Word) (s : State) (k : State → Out) : Out :=
  withWrite (addrOf s.sp - 1) (highByte v) s fun s1 =>
    withWrite (addrOf s1.sp - 2) (lowByte v) s1 fun s2 => k (s2.setSp (s2.sp - 2))

/-- `Pop16()` and what follows it (`41_stack.md` R83): the low byte at sp, the high byte at sp + 1, then sp. -/
def pop16 (s : State) (k : Word → State → Out) : Out :=
  withRead (addrOf s.sp) s fun lo =>
    withRead (addrOf s.sp + 1) s fun hi => k (wordOf hi lo) (s.setSp (s.sp + 2))

end Sys2Proof.Machine
end

