-- ==== Sys2Proof/Machine/Flags.lean ====
section
/-! DEFINITION. The four flags held in F (`10_state.md` R14, R18) and every flag computation of the spec. -/

namespace Sys2Proof.Machine

/-- A byte with one bit set to a truth value, its other seven bits as they were (`00_scope.md` R7). -/
def putBit (v : Byte) (i : Nat) (x : Bool) : Byte :=
  if x then v ||| (1#8 <<< i) else v &&& ~~~(1#8 <<< i)

/-- `F.Z`, bit 7 of F (`10_state.md` R14, D5). -/
def State.flagZ (s : State) : Bool := s.f.getLsbD 7
/-- `F.N`, bit 6 of F. -/
def State.flagN (s : State) : Bool := s.f.getLsbD 6
/-- `F.H`, bit 5 of F. -/
def State.flagH (s : State) : Bool := s.f.getLsbD 5
/-- `F.C`, bit 4 of F. -/
def State.flagC (s : State) : Bool := s.f.getLsbD 4

/-- `F.Z <- x`: that one bit of F and no other (`10_state.md` R14). -/
def State.setZ (s : State) (x : Bool) : State := { s with f := putBit s.f 7 x }
/-- `F.N <- x`. -/
def State.setN (s : State) (x : Bool) : State := { s with f := putBit s.f 6 x }
/-- `F.H <- x`. -/
def State.setH (s : State) (x : Bool) : State := { s with f := putBit s.f 5 x }
/-- `F.C <- x`. -/
def State.setC (s : State) (x : Bool) : State := { s with f := putBit s.f 4 x }

/-- Z, N and H written, C as it was: the flag writes of `INC r`, `DEC r`, `BIT` (`10_state.md` R18). -/
def State.setZNH (s : State) (z n h : Bool) : State := ((s.setZ z).setN n).setH h

/-- All four flags written: the flag writes of `XOR r`, `RLA` and the extended rotates and shifts (`10_state.md` R18). -/
def State.setZNHC (s : State) (z n h c : Bool) : State := (s.setZNH z n h).setC c

/-- Z from a result: result = 0 (`10_state.md` R18). -/
def isZero (v : Byte) : Bool := v == 0

/-- H of `INC r`: `new[3:0] < old[3:0]` (`43_arith_logic.md` R110). -/
def halfCarryInc (old new : Byte) : Bool := decide (new.toNat % 16 < old.toNat % 16)

/-- H of `DEC r`: `new[3:0] > old[3:0]` (`43_arith_logic.md` R111). -/
def halfBorrowDec (old new : Byte) : Bool := decide (old.toNat % 16 < new.toNat % 16)

/-- Whether a condition of `JR cc,e` holds (`44_control.md` R121). -/
def condHolds (s : State) : Cond → Bool
  | .nz => !s.flagZ
  | .z => s.flagZ
  | .nc => !s.flagC
  | .c => s.flagC

end Sys2Proof.Machine
end

