-- ==== Sys2Proof/Machine/Operands.lean ====
section
/-! DEFINITION. The operand forms: addresses, offsets, the operand x of the extended table, and the results of the
rotates, shifts and bit operations. -/

namespace Sys2Proof.Machine

/-- `sext_16` of an offset byte as a 16-bit addend (`00_scope.md` R7, `30_encoding.md` R52). -/
def offsetOf (e : Byte) : Word := e.signExtend 16

/-- `0xFF00 + n`, n zero-extended (`42_loads.md` R97, R99). -/
def highAddr (n : Byte) : Int := 0xFF00 + (n.toNat : Int)

/-- The number of a three-bit index (`30_encoding.md` R56, R60). -/
def indexNat : Index8 → Nat
  | .i0 => 0
  | .i1 => 1
  | .i2 => 2
  | .i3 => 3
  | .i4 => 4
  | .i5 => 5
  | .i6 => 6
  | .i7 => 7

/-- The target `8 * t` of `RST t` (`30_encoding.md` R56). -/
def rstTarget (t : Index8) : Word := BitVec.ofNat 16 (8 * indexNat t)

/-- What `RST` pushes: `wrap16(pc + RST_PUSH_DELTA)` (`44_control.md` R123, D9). -/
def rstPushed (s : State) : Word := s.pc + (if s.rstPushDelta then 1 else 0)

/-- Reading the operand x of an extended operation (`30_encoding.md` R60): a register, or the byte at HL. -/
def withOperand (x : Operand8) (s : State) (k : Byte → Out) : Out :=
  match x with
  | .reg r => k (s.reg r)
  | .atHL => withRead (addrOf (s.pair .hl)) s k

/-- Writing the operand x of an extended operation. -/
def putOperand (x : Operand8) (v : Byte) (s : State) (k : State → Out) : Out :=
  match x with
  | .reg r => k (s.setReg r v)
  | .atHL => withWrite (addrOf (s.pair .hl)) v s k

/-- `wrap8(old * 2) | cin`: a shift left with a bit shifted in (`43_arith_logic.md` R115, `45_extended.md` R130). -/
def shiftLeftIn (old : Byte) (cin : Bool) : Byte := putBit (old <<< 1) 0 cin

/-- `(old >> 1) | (cin << 7)`: a shift right with a bit shifted in (`45_extended.md` R132, R136). -/
def shiftRightIn (old : Byte) (cin : Bool) : Byte := putBit (old >>> 1) 7 cin

/-- The result of a rotate or shift (`45_extended.md` R130 to R143), cin being the C flag before it. -/
def shiftResult (op : ShiftOp) (old : Byte) (cin : Bool) : Byte :=
  match op with
  | .rlc => shiftLeftIn old (old.getLsbD 7)
  | .rrc => shiftRightIn old (old.getLsbD 0)
  | .rl => shiftLeftIn old cin
  | .rr => shiftRightIn old cin
  | .sla => shiftLeftIn old false
  | .sra => shiftRightIn old (old.getLsbD 7)
  | .srl => shiftRightIn old false

/-- The bit shifted out, which becomes C (`45_extended.md` R130 to R143). -/
def shiftOut (op : ShiftOp) (old : Byte) : Bool :=
  match op with
  | .rlc => old.getLsbD 7
  | .rrc => old.getLsbD 0
  | .rl => old.getLsbD 7
  | .rr => old.getLsbD 0
  | .sla => old.getLsbD 7
  | .sra => old.getLsbD 0
  | .srl => old.getLsbD 0

end Sys2Proof.Machine
end

