-- ==== Sys2Proof/Machine/Arith.lean ====
section
/-! DEFINITION. Increment, decrement, exclusive-or, accumulator rotate (`43_arith_logic.md`). -/

namespace Sys2Proof.Machine

/-- `INC r` (`43_arith_logic.md` R110): C is as it was. -/
def incReg (r : Reg) (s : State) : Out :=
  let old := s.reg r
  let new := old + 1
  .next (((s.setReg r new).setZNH (isZero new) false (halfCarryInc old new)).advance 1)

/-- `DEC r` (`43_arith_logic.md` R111): C is as it was. -/
def decReg (r : Reg) (s : State) : Out :=
  let old := s.reg r
  let new := old - 1
  .next (((s.setReg r new).setZNH (isZero new) true (halfBorrowDec old new)).advance 1)

/-- `INC rr` (`43_arith_logic.md` R113): no flag is written (D7). -/
def incPair (p : DataPair) (s : State) : Out :=
  .next ((s.setPair (pairOf p) (s.pair (pairOf p) + 1)).advance 1)

/-- `XOR r` (`43_arith_logic.md` R114). -/
def xorReg (r : Reg) (s : State) : Out :=
  let res := s.reg .a ^^^ s.reg r
  .next (((s.setReg .a res).setZNHC (isZero res) false false false).advance 1)

/-- `INC B`, R110. -/
def execIncB (s : State) : Out := incReg .b s
/-- `INC C`, R110. -/
def execIncC (s : State) : Out := incReg .c s
/-- `INC D`, R110. -/
def execIncD (s : State) : Out := incReg .d s
/-- `INC E`, R110. -/
def execIncE (s : State) : Out := incReg .e s
/-- `INC H`, R110. -/
def execIncH (s : State) : Out := incReg .h s
/-- `INC L`, R110. -/
def execIncL (s : State) : Out := incReg .l s
/-- `INC A`, R110. -/
def execIncA (s : State) : Out := incReg .a s
/-- `DEC B`, R111. -/
def execDecB (s : State) : Out := decReg .b s
/-- `DEC C`, R111. -/
def execDecC (s : State) : Out := decReg .c s
/-- `DEC D`, R111. -/
def execDecD (s : State) : Out := decReg .d s
/-- `DEC E`, R111. -/
def execDecE (s : State) : Out := decReg .e s
/-- `DEC H`, R111. -/
def execDecH (s : State) : Out := decReg .h s
/-- `DEC L`, R111. -/
def execDecL (s : State) : Out := decReg .l s
/-- `DEC A`, R111. -/
def execDecA (s : State) : Out := decReg .a s
/-- `INC BC`, R113. -/
def execIncBC (s : State) : Out := incPair .bc s
/-- `INC DE`, R113. -/
def execIncDE (s : State) : Out := incPair .de s
/-- `INC HL`, R113. -/
def execIncHL (s : State) : Out := incPair .hl s
/-- `XOR B`, R114. -/
def execXorB (s : State) : Out := xorReg .b s
/-- `XOR C`, R114. -/
def execXorC (s : State) : Out := xorReg .c s
/-- `XOR D`, R114. -/
def execXorD (s : State) : Out := xorReg .d s
/-- `XOR E`, R114. -/
def execXorE (s : State) : Out := xorReg .e s
/-- `XOR H`, R114. -/
def execXorH (s : State) : Out := xorReg .h s
/-- `XOR L`, R114. -/
def execXorL (s : State) : Out := xorReg .l s
/-- `XOR A`, R114. -/
def execXorA (s : State) : Out := xorReg .a s
/-- `RLA`, R115. -/
def execRlaAcc (s : State) : Out :=
  let old := s.reg .a
  .next (((s.setReg .a (shiftLeftIn old s.flagC)).setZNHC false false false (old.getLsbD 7)).advance 1)

end Sys2Proof.Machine
end

