-- ==== Sys2Proof/Machine/Extended.lean ====
section
/-! DEFINITION. The extended table (`45_extended.md`), run inside `44_control.md` R124, which advances PC by 2. -/

namespace Sys2Proof.Machine

/-- A rotate or shift on x (`45_extended.md` R130 to R143): read, write, flags. -/
def runShift (op : ShiftOp) (x : Operand8) (s : State) : Out :=
  withOperand x s fun old =>
    let res := shiftResult op old s.flagC
    putOperand x res s fun s1 =>
      .next ((s1.setZNHC (isZero res) false false (shiftOut op old)).advance 2)

/-- `BIT b,x` (`45_extended.md` R144, R145): C is as it was, x is not written. -/
def runBit (b : Index8) (x : Operand8) (s : State) : Out :=
  withOperand x s fun v => .next ((s.setZNH (!v.getLsbD (indexNat b)) false true).advance 2)

/-- `RES b,x` (`45_extended.md` R146, R147). -/
def runRes (b : Index8) (x : Operand8) (s : State) : Out :=
  withOperand x s fun v => putOperand x (putBit v (indexNat b) false) s fun s1 => .next (s1.advance 2)

/-- `SET b,x` (`45_extended.md` R148, R149). -/
def runSet (b : Index8) (x : Operand8) (s : State) : Out :=
  withOperand x s fun v => putOperand x (putBit v (indexNat b) true) s fun s1 => .next (s1.advance 2)

/-- An extended operation and the PC advance of `44_control.md` R124. -/
def runExt (op : ExtOp) (s : State) : Out :=
  match op with
  | .shift o x => runShift o x s
  | .bit b x => runBit b x s
  | .res b x => runRes b x s
  | .set b x => runSet b x s

/-- `RLC B`, R130. -/
def execRlcB (s : State) : Out := runShift .rlc (.reg .b) s
/-- `RLC C`, R130. -/
def execRlcC (s : State) : Out := runShift .rlc (.reg .c) s
/-- `RLC D`, R130. -/
def execRlcD (s : State) : Out := runShift .rlc (.reg .d) s
/-- `RLC E`, R130. -/
def execRlcE (s : State) : Out := runShift .rlc (.reg .e) s
/-- `RLC H`, R130. -/
def execRlcH (s : State) : Out := runShift .rlc (.reg .h) s
/-- `RLC L`, R130. -/
def execRlcL (s : State) : Out := runShift .rlc (.reg .l) s
/-- `RLC (HL)`, R131. -/
def execRlcAtHL (s : State) : Out := runShift .rlc .atHL s
/-- `RLC A`, R130. -/
def execRlcA (s : State) : Out := runShift .rlc (.reg .a) s
/-- `RRC B`, R132. -/
def execRrcB (s : State) : Out := runShift .rrc (.reg .b) s
/-- `RRC C`, R132. -/
def execRrcC (s : State) : Out := runShift .rrc (.reg .c) s
/-- `RRC D`, R132. -/
def execRrcD (s : State) : Out := runShift .rrc (.reg .d) s
/-- `RRC E`, R132. -/
def execRrcE (s : State) : Out := runShift .rrc (.reg .e) s
/-- `RRC H`, R132. -/
def execRrcH (s : State) : Out := runShift .rrc (.reg .h) s
/-- `RRC L`, R132. -/
def execRrcL (s : State) : Out := runShift .rrc (.reg .l) s
/-- `RRC (HL)`, R133. -/
def execRrcAtHL (s : State) : Out := runShift .rrc .atHL s
/-- `RRC A`, R132. -/
def execRrcA (s : State) : Out := runShift .rrc (.reg .a) s
/-- `RL B`, R134. -/
def execRlB (s : State) : Out := runShift .rl (.reg .b) s
/-- `RL C`, R134. -/
def execRlC (s : State) : Out := runShift .rl (.reg .c) s
/-- `RL D`, R134. -/
def execRlD (s : State) : Out := runShift .rl (.reg .d) s
/-- `RL E`, R134. -/
def execRlE (s : State) : Out := runShift .rl (.reg .e) s
/-- `RL H`, R134. -/
def execRlH (s : State) : Out := runShift .rl (.reg .h) s
/-- `RL L`, R134. -/
def execRlL (s : State) : Out := runShift .rl (.reg .l) s
/-- `RL (HL)`, R135. -/
def execRlAtHL (s : State) : Out := runShift .rl .atHL s
/-- `RL A`, R134. -/
def execRlA (s : State) : Out := runShift .rl (.reg .a) s
/-- `RR B`, R136. -/
def execRrB (s : State) : Out := runShift .rr (.reg .b) s
/-- `RR C`, R136. -/
def execRrC (s : State) : Out := runShift .rr (.reg .c) s
/-- `RR D`, R136. -/
def execRrD (s : State) : Out := runShift .rr (.reg .d) s
/-- `RR E`, R136. -/
def execRrE (s : State) : Out := runShift .rr (.reg .e) s
/-- `RR H`, R136. -/
def execRrH (s : State) : Out := runShift .rr (.reg .h) s
/-- `RR L`, R136. -/
def execRrL (s : State) : Out := runShift .rr (.reg .l) s
/-- `RR (HL)`, R137. -/
def execRrAtHL (s : State) : Out := runShift .rr .atHL s
/-- `RR A`, R136. -/
def execRrA (s : State) : Out := runShift .rr (.reg .a) s
/-- `SLA B`, R138. -/
def execSlaB (s : State) : Out := runShift .sla (.reg .b) s
/-- `SLA C`, R138. -/
def execSlaC (s : State) : Out := runShift .sla (.reg .c) s
/-- `SLA D`, R138. -/
def execSlaD (s : State) : Out := runShift .sla (.reg .d) s
/-- `SLA E`, R138. -/
def execSlaE (s : State) : Out := runShift .sla (.reg .e) s
/-- `SLA H`, R138. -/
def execSlaH (s : State) : Out := runShift .sla (.reg .h) s
/-- `SLA L`, R138. -/
def execSlaL (s : State) : Out := runShift .sla (.reg .l) s
/-- `SLA (HL)`, R139. -/
def execSlaAtHL (s : State) : Out := runShift .sla .atHL s
/-- `SLA A`, R138. -/
def execSlaA (s : State) : Out := runShift .sla (.reg .a) s
/-- `SRA B`, R140. -/
def execSraB (s : State) : Out := runShift .sra (.reg .b) s
/-- `SRA C`, R140. -/
def execSraC (s : State) : Out := runShift .sra (.reg .c) s
/-- `SRA D`, R140. -/
def execSraD (s : State) : Out := runShift .sra (.reg .d) s
/-- `SRA E`, R140. -/
def execSraE (s : State) : Out := runShift .sra (.reg .e) s
/-- `SRA H`, R140. -/
def execSraH (s : State) : Out := runShift .sra (.reg .h) s
/-- `SRA L`, R140. -/
def execSraL (s : State) : Out := runShift .sra (.reg .l) s
/-- `SRA (HL)`, R141. -/
def execSraAtHL (s : State) : Out := runShift .sra .atHL s
/-- `SRA A`, R140. -/
def execSraA (s : State) : Out := runShift .sra (.reg .a) s
/-- `SRL B`, R142. -/
def execSrlB (s : State) : Out := runShift .srl (.reg .b) s
/-- `SRL C`, R142. -/
def execSrlC (s : State) : Out := runShift .srl (.reg .c) s
/-- `SRL D`, R142. -/
def execSrlD (s : State) : Out := runShift .srl (.reg .d) s
/-- `SRL E`, R142. -/
def execSrlE (s : State) : Out := runShift .srl (.reg .e) s
/-- `SRL H`, R142. -/
def execSrlH (s : State) : Out := runShift .srl (.reg .h) s
/-- `SRL L`, R142. -/
def execSrlL (s : State) : Out := runShift .srl (.reg .l) s
/-- `SRL (HL)`, R143. -/
def execSrlAtHL (s : State) : Out := runShift .srl .atHL s
/-- `SRL A`, R142. -/
def execSrlA (s : State) : Out := runShift .srl (.reg .a) s
/-- `BIT 0,B`, R144. -/
def execBit0B (s : State) : Out := runBit .i0 (.reg .b) s
/-- `BIT 0,C`, R144. -/
def execBit0C (s : State) : Out := runBit .i0 (.reg .c) s
/-- `BIT 0,D`, R144. -/
def execBit0D (s : State) : Out := runBit .i0 (.reg .d) s
/-- `BIT 0,E`, R144. -/
def execBit0E (s : State) : Out := runBit .i0 (.reg .e) s
/-- `BIT 0,H`, R144. -/
def execBit0H (s : State) : Out := runBit .i0 (.reg .h) s
/-- `BIT 0,L`, R144. -/
def execBit0L (s : State) : Out := runBit .i0 (.reg .l) s
/-- `BIT 0,(HL)`, R145. -/
def execBit0AtHL (s : State) : Out := runBit .i0 .atHL s
/-- `BIT 0,A`, R144. -/
def execBit0A (s : State) : Out := runBit .i0 (.reg .a) s
/-- `BIT 1,B`, R144. -/
def execBit1B (s : State) : Out := runBit .i1 (.reg .b) s
/-- `BIT 1,C`, R144. -/
def execBit1C (s : State) : Out := runBit .i1 (.reg .c) s
/-- `BIT 1,D`, R144. -/
def execBit1D (s : State) : Out := runBit .i1 (.reg .d) s
/-- `BIT 1,E`, R144. -/
def execBit1E (s : State) : Out := runBit .i1 (.reg .e) s
/-- `BIT 1,H`, R144. -/
def execBit1H (s : State) : Out := runBit .i1 (.reg .h) s
/-- `BIT 1,L`, R144. -/
def execBit1L (s : State) : Out := runBit .i1 (.reg .l) s
/-- `BIT 1,(HL)`, R145. -/
def execBit1AtHL (s : State) : Out := runBit .i1 .atHL s
/-- `BIT 1,A`, R144. -/
def execBit1A (s : State) : Out := runBit .i1 (.reg .a) s
/-- `BIT 2,B`, R144. -/
def execBit2B (s : State) : Out := runBit .i2 (.reg .b) s
/-- `BIT 2,C`, R144. -/
def execBit2C (s : State) : Out := runBit .i2 (.reg .c) s
/-- `BIT 2,D`, R144. -/
def execBit2D (s : State) : Out := runBit .i2 (.reg .d) s
/-- `BIT 2,E`, R144. -/
def execBit2E (s : State) : Out := runBit .i2 (.reg .e) s
/-- `BIT 2,H`, R144. -/
def execBit2H (s : State) : Out := runBit .i2 (.reg .h) s
/-- `BIT 2,L`, R144. -/
def execBit2L (s : State) : Out := runBit .i2 (.reg .l) s
/-- `BIT 2,(HL)`, R145. -/
def execBit2AtHL (s : State) : Out := runBit .i2 .atHL s
/-- `BIT 2,A`, R144. -/
def execBit2A (s : State) : Out := runBit .i2 (.reg .a) s
/-- `BIT 3,B`, R144. -/
def execBit3B (s : State) : Out := runBit .i3 (.reg .b) s
/-- `BIT 3,C`, R144. -/
def execBit3C (s : State) : Out := runBit .i3 (.reg .c) s
/-- `BIT 3,D`, R144. -/
def execBit3D (s : State) : Out := runBit .i3 (.reg .d) s
/-- `BIT 3,E`, R144. -/
def execBit3E (s : State) : Out := runBit .i3 (.reg .e) s
/-- `BIT 3,H`, R144. -/
def execBit3H (s : State) : Out := runBit .i3 (.reg .h) s
/-- `BIT 3,L`, R144. -/
def execBit3L (s : State) : Out := runBit .i3 (.reg .l) s
/-- `BIT 3,(HL)`, R145. -/
def execBit3AtHL (s : State) : Out := runBit .i3 .atHL s
/-- `BIT 3,A`, R144. -/
def execBit3A (s : State) : Out := runBit .i3 (.reg .a) s
/-- `BIT 4,B`, R144. -/
def execBit4B (s : State) : Out := runBit .i4 (.reg .b) s
/-- `BIT 4,C`, R144. -/
def execBit4C (s : State) : Out := runBit .i4 (.reg .c) s
/-- `BIT 4,D`, R144. -/
def execBit4D (s : State) : Out := runBit .i4 (.reg .d) s
/-- `BIT 4,E`, R144. -/
def execBit4E (s : State) : Out := runBit .i4 (.reg .e) s
/-- `BIT 4,H`, R144. -/
def execBit4H (s : State) : Out := runBit .i4 (.reg .h) s
/-- `BIT 4,L`, R144. -/
def execBit4L (s : State) : Out := runBit .i4 (.reg .l) s
/-- `BIT 4,(HL)`, R145. -/
def execBit4AtHL (s : State) : Out := runBit .i4 .atHL s
/-- `BIT 4,A`, R144. -/
def execBit4A (s : State) : Out := runBit .i4 (.reg .a) s
/-- `BIT 5,B`, R144. -/
def execBit5B (s : State) : Out := runBit .i5 (.reg .b) s
/-- `BIT 5,C`, R144. -/
def execBit5C (s : State) : Out := runBit .i5 (.reg .c) s
/-- `BIT 5,D`, R144. -/
def execBit5D (s : State) : Out := runBit .i5 (.reg .d) s
/-- `BIT 5,E`, R144. -/
def execBit5E (s : State) : Out := runBit .i5 (.reg .e) s
/-- `BIT 5,H`, R144. -/
def execBit5H (s : State) : Out := runBit .i5 (.reg .h) s
/-- `BIT 5,L`, R144. -/
def execBit5L (s : State) : Out := runBit .i5 (.reg .l) s
/-- `BIT 5,(HL)`, R145. -/
def execBit5AtHL (s : State) : Out := runBit .i5 .atHL s
/-- `BIT 5,A`, R144. -/
def execBit5A (s : State) : Out := runBit .i5 (.reg .a) s
/-- `BIT 6,B`, R144. -/
def execBit6B (s : State) : Out := runBit .i6 (.reg .b) s
/-- `BIT 6,C`, R144. -/
def execBit6C (s : State) : Out := runBit .i6 (.reg .c) s
/-- `BIT 6,D`, R144. -/
def execBit6D (s : State) : Out := runBit .i6 (.reg .d) s
/-- `BIT 6,E`, R144. -/
def execBit6E (s : State) : Out := runBit .i6 (.reg .e) s
/-- `BIT 6,H`, R144. -/
def execBit6H (s : State) : Out := runBit .i6 (.reg .h) s
/-- `BIT 6,L`, R144. -/
def execBit6L (s : State) : Out := runBit .i6 (.reg .l) s
/-- `BIT 6,(HL)`, R145. -/
def execBit6AtHL (s : State) : Out := runBit .i6 .atHL s
/-- `BIT 6,A`, R144. -/
def execBit6A (s : State) : Out := runBit .i6 (.reg .a) s
/-- `BIT 7,B`, R144. -/
def execBit7B (s : State) : Out := runBit .i7 (.reg .b) s
/-- `BIT 7,C`, R144. -/
def execBit7C (s : State) : Out := runBit .i7 (.reg .c) s
/-- `BIT 7,D`, R144. -/
def execBit7D (s : State) : Out := runBit .i7 (.reg .d) s
/-- `BIT 7,E`, R144. -/
def execBit7E (s : State) : Out := runBit .i7 (.reg .e) s
/-- `BIT 7,H`, R144. -/
def execBit7H (s : State) : Out := runBit .i7 (.reg .h) s
/-- `BIT 7,L`, R144. -/
def execBit7L (s : State) : Out := runBit .i7 (.reg .l) s
/-- `BIT 7,(HL)`, R145. -/
def execBit7AtHL (s : State) : Out := runBit .i7 .atHL s
/-- `BIT 7,A`, R144. -/
def execBit7A (s : State) : Out := runBit .i7 (.reg .a) s
/-- `RES 0,B`, R146. -/
def execRes0B (s : State) : Out := runRes .i0 (.reg .b) s
/-- `RES 0,C`, R146. -/
def execRes0C (s : State) : Out := runRes .i0 (.reg .c) s
/-- `RES 0,D`, R146. -/
def execRes0D (s : State) : Out := runRes .i0 (.reg .d) s
/-- `RES 0,E`, R146. -/
def execRes0E (s : State) : Out := runRes .i0 (.reg .e) s
/-- `RES 0,H`, R146. -/
def execRes0H (s : State) : Out := runRes .i0 (.reg .h) s
/-- `RES 0,L`, R146. -/
def execRes0L (s : State) : Out := runRes .i0 (.reg .l) s
/-- `RES 0,(HL)`, R147. -/
def execRes0AtHL (s : State) : Out := runRes .i0 .atHL s
/-- `RES 0,A`, R146. -/
def execRes0A (s : State) : Out := runRes .i0 (.reg .a) s
/-- `RES 1,B`, R146. -/
def execRes1B (s : State) : Out := runRes .i1 (.reg .b) s
/-- `RES 1,C`, R146. -/
def execRes1C (s : State) : Out := runRes .i1 (.reg .c) s
/-- `RES 1,D`, R146. -/
def execRes1D (s : State) : Out := runRes .i1 (.reg .d) s
/-- `RES 1,E`, R146. -/
def execRes1E (s : State) : Out := runRes .i1 (.reg .e) s
/-- `RES 1,H`, R146. -/
def execRes1H (s : State) : Out := runRes .i1 (.reg .h) s
/-- `RES 1,L`, R146. -/
def execRes1L (s : State) : Out := runRes .i1 (.reg .l) s
/-- `RES 1,(HL)`, R147. -/
def execRes1AtHL (s : State) : Out := runRes .i1 .atHL s
/-- `RES 1,A`, R146. -/
def execRes1A (s : State) : Out := runRes .i1 (.reg .a) s
/-- `RES 2,B`, R146. -/
def execRes2B (s : State) : Out := runRes .i2 (.reg .b) s
/-- `RES 2,C`, R146. -/
def execRes2C (s : State) : Out := runRes .i2 (.reg .c) s
/-- `RES 2,D`, R146. -/
def execRes2D (s : State) : Out := runRes .i2 (.reg .d) s
/-- `RES 2,E`, R146. -/
def execRes2E (s : State) : Out := runRes .i2 (.reg .e) s
/-- `RES 2,H`, R146. -/
def execRes2H (s : State) : Out := runRes .i2 (.reg .h) s
/-- `RES 2,L`, R146. -/
def execRes2L (s : State) : Out := runRes .i2 (.reg .l) s
/-- `RES 2,(HL)`, R147. -/
def execRes2AtHL (s : State) : Out := runRes .i2 .atHL s
/-- `RES 2,A`, R146. -/
def execRes2A (s : State) : Out := runRes .i2 (.reg .a) s
/-- `RES 3,B`, R146. -/
def execRes3B (s : State) : Out := runRes .i3 (.reg .b) s
/-- `RES 3,C`, R146. -/
def execRes3C (s : State) : Out := runRes .i3 (.reg .c) s
/-- `RES 3,D`, R146. -/
def execRes3D (s : State) : Out := runRes .i3 (.reg .d) s
/-- `RES 3,E`, R146. -/
def execRes3E (s : State) : Out := runRes .i3 (.reg .e) s
/-- `RES 3,H`, R146. -/
def execRes3H (s : State) : Out := runRes .i3 (.reg .h) s
/-- `RES 3,L`, R146. -/
def execRes3L (s : State) : Out := runRes .i3 (.reg .l) s
/-- `RES 3,(HL)`, R147. -/
def execRes3AtHL (s : State) : Out := runRes .i3 .atHL s
/-- `RES 3,A`, R146. -/
def execRes3A (s : State) : Out := runRes .i3 (.reg .a) s
/-- `RES 4,B`, R146. -/
def execRes4B (s : State) : Out := runRes .i4 (.reg .b) s
/-- `RES 4,C`, R146. -/
def execRes4C (s : State) : Out := runRes .i4 (.reg .c) s
/-- `RES 4,D`, R146. -/
def execRes4D (s : State) : Out := runRes .i4 (.reg .d) s
/-- `RES 4,E`, R146. -/
def execRes4E (s : State) : Out := runRes .i4 (.reg .e) s
/-- `RES 4,H`, R146. -/
def execRes4H (s : State) : Out := runRes .i4 (.reg .h) s
/-- `RES 4,L`, R146. -/
def execRes4L (s : State) : Out := runRes .i4 (.reg .l) s
/-- `RES 4,(HL)`, R147. -/
def execRes4AtHL (s : State) : Out := runRes .i4 .atHL s
/-- `RES 4,A`, R146. -/
def execRes4A (s : State) : Out := runRes .i4 (.reg .a) s
/-- `RES 5,B`, R146. -/
def execRes5B (s : State) : Out := runRes .i5 (.reg .b) s
/-- `RES 5,C`, R146. -/
def execRes5C (s : State) : Out := runRes .i5 (.reg .c) s
/-- `RES 5,D`, R146. -/
def execRes5D (s : State) : Out := runRes .i5 (.reg .d) s
/-- `RES 5,E`, R146. -/
def execRes5E (s : State) : Out := runRes .i5 (.reg .e) s
/-- `RES 5,H`, R146. -/
def execRes5H (s : State) : Out := runRes .i5 (.reg .h) s
/-- `RES 5,L`, R146. -/
def execRes5L (s : State) : Out := runRes .i5 (.reg .l) s
/-- `RES 5,(HL)`, R147. -/
def execRes5AtHL (s : State) : Out := runRes .i5 .atHL s
/-- `RES 5,A`, R146. -/
def execRes5A (s : State) : Out := runRes .i5 (.reg .a) s
/-- `RES 6,B`, R146. -/
def execRes6B (s : State) : Out := runRes .i6 (.reg .b) s
/-- `RES 6,C`, R146. -/
def execRes6C (s : State) : Out := runRes .i6 (.reg .c) s
/-- `RES 6,D`, R146. -/
def execRes6D (s : State) : Out := runRes .i6 (.reg .d) s
/-- `RES 6,E`, R146. -/
def execRes6E (s : State) : Out := runRes .i6 (.reg .e) s
/-- `RES 6,H`, R146. -/
def execRes6H (s : State) : Out := runRes .i6 (.reg .h) s
/-- `RES 6,L`, R146. -/
def execRes6L (s : State) : Out := runRes .i6 (.reg .l) s
/-- `RES 6,(HL)`, R147. -/
def execRes6AtHL (s : State) : Out := runRes .i6 .atHL s
/-- `RES 6,A`, R146. -/
def execRes6A (s : State) : Out := runRes .i6 (.reg .a) s
/-- `RES 7,B`, R146. -/
def execRes7B (s : State) : Out := runRes .i7 (.reg .b) s
/-- `RES 7,C`, R146. -/
def execRes7C (s : State) : Out := runRes .i7 (.reg .c) s
/-- `RES 7,D`, R146. -/
def execRes7D (s : State) : Out := runRes .i7 (.reg .d) s
/-- `RES 7,E`, R146. -/
def execRes7E (s : State) : Out := runRes .i7 (.reg .e) s
/-- `RES 7,H`, R146. -/
def execRes7H (s : State) : Out := runRes .i7 (.reg .h) s
/-- `RES 7,L`, R146. -/
def execRes7L (s : State) : Out := runRes .i7 (.reg .l) s
/-- `RES 7,(HL)`, R147. -/
def execRes7AtHL (s : State) : Out := runRes .i7 .atHL s
/-- `RES 7,A`, R146. -/
def execRes7A (s : State) : Out := runRes .i7 (.reg .a) s
/-- `SET 0,B`, R148. -/
def execSet0B (s : State) : Out := runSet .i0 (.reg .b) s
/-- `SET 0,C`, R148. -/
def execSet0C (s : State) : Out := runSet .i0 (.reg .c) s
/-- `SET 0,D`, R148. -/
def execSet0D (s : State) : Out := runSet .i0 (.reg .d) s
/-- `SET 0,E`, R148. -/
def execSet0E (s : State) : Out := runSet .i0 (.reg .e) s
/-- `SET 0,H`, R148. -/
def execSet0H (s : State) : Out := runSet .i0 (.reg .h) s
/-- `SET 0,L`, R148. -/
def execSet0L (s : State) : Out := runSet .i0 (.reg .l) s
/-- `SET 0,(HL)`, R149. -/
def execSet0AtHL (s : State) : Out := runSet .i0 .atHL s
/-- `SET 0,A`, R148. -/
def execSet0A (s : State) : Out := runSet .i0 (.reg .a) s
/-- `SET 1,B`, R148. -/
def execSet1B (s : State) : Out := runSet .i1 (.reg .b) s
/-- `SET 1,C`, R148. -/
def execSet1C (s : State) : Out := runSet .i1 (.reg .c) s
/-- `SET 1,D`, R148. -/
def execSet1D (s : State) : Out := runSet .i1 (.reg .d) s
/-- `SET 1,E`, R148. -/
def execSet1E (s : State) : Out := runSet .i1 (.reg .e) s
/-- `SET 1,H`, R148. -/
def execSet1H (s : State) : Out := runSet .i1 (.reg .h) s
/-- `SET 1,L`, R148. -/
def execSet1L (s : State) : Out := runSet .i1 (.reg .l) s
/-- `SET 1,(HL)`, R149. -/
def execSet1AtHL (s : State) : Out := runSet .i1 .atHL s
/-- `SET 1,A`, R148. -/
def execSet1A (s : State) : Out := runSet .i1 (.reg .a) s
/-- `SET 2,B`, R148. -/
def execSet2B (s : State) : Out := runSet .i2 (.reg .b) s
/-- `SET 2,C`, R148. -/
def execSet2C (s : State) : Out := runSet .i2 (.reg .c) s
/-- `SET 2,D`, R148. -/
def execSet2D (s : State) : Out := runSet .i2 (.reg .d) s
/-- `SET 2,E`, R148. -/
def execSet2E (s : State) : Out := runSet .i2 (.reg .e) s
/-- `SET 2,H`, R148. -/
def execSet2H (s : State) : Out := runSet .i2 (.reg .h) s
/-- `SET 2,L`, R148. -/
def execSet2L (s : State) : Out := runSet .i2 (.reg .l) s
/-- `SET 2,(HL)`, R149. -/
def execSet2AtHL (s : State) : Out := runSet .i2 .atHL s
/-- `SET 2,A`, R148. -/
def execSet2A (s : State) : Out := runSet .i2 (.reg .a) s
/-- `SET 3,B`, R148. -/
def execSet3B (s : State) : Out := runSet .i3 (.reg .b) s
/-- `SET 3,C`, R148. -/
def execSet3C (s : State) : Out := runSet .i3 (.reg .c) s
/-- `SET 3,D`, R148. -/
def execSet3D (s : State) : Out := runSet .i3 (.reg .d) s
/-- `SET 3,E`, R148. -/
def execSet3E (s : State) : Out := runSet .i3 (.reg .e) s
/-- `SET 3,H`, R148. -/
def execSet3H (s : State) : Out := runSet .i3 (.reg .h) s
/-- `SET 3,L`, R148. -/
def execSet3L (s : State) : Out := runSet .i3 (.reg .l) s
/-- `SET 3,(HL)`, R149. -/
def execSet3AtHL (s : State) : Out := runSet .i3 .atHL s
/-- `SET 3,A`, R148. -/
def execSet3A (s : State) : Out := runSet .i3 (.reg .a) s
/-- `SET 4,B`, R148. -/
def execSet4B (s : State) : Out := runSet .i4 (.reg .b) s
/-- `SET 4,C`, R148. -/
def execSet4C (s : State) : Out := runSet .i4 (.reg .c) s
/-- `SET 4,D`, R148. -/
def execSet4D (s : State) : Out := runSet .i4 (.reg .d) s
/-- `SET 4,E`, R148. -/
def execSet4E (s : State) : Out := runSet .i4 (.reg .e) s
/-- `SET 4,H`, R148. -/
def execSet4H (s : State) : Out := runSet .i4 (.reg .h) s
/-- `SET 4,L`, R148. -/
def execSet4L (s : State) : Out := runSet .i4 (.reg .l) s
/-- `SET 4,(HL)`, R149. -/
def execSet4AtHL (s : State) : Out := runSet .i4 .atHL s
/-- `SET 4,A`, R148. -/
def execSet4A (s : State) : Out := runSet .i4 (.reg .a) s
/-- `SET 5,B`, R148. -/
def execSet5B (s : State) : Out := runSet .i5 (.reg .b) s
/-- `SET 5,C`, R148. -/
def execSet5C (s : State) : Out := runSet .i5 (.reg .c) s
/-- `SET 5,D`, R148. -/
def execSet5D (s : State) : Out := runSet .i5 (.reg .d) s
/-- `SET 5,E`, R148. -/
def execSet5E (s : State) : Out := runSet .i5 (.reg .e) s
/-- `SET 5,H`, R148. -/
def execSet5H (s : State) : Out := runSet .i5 (.reg .h) s
/-- `SET 5,L`, R148. -/
def execSet5L (s : State) : Out := runSet .i5 (.reg .l) s
/-- `SET 5,(HL)`, R149. -/
def execSet5AtHL (s : State) : Out := runSet .i5 .atHL s
/-- `SET 5,A`, R148. -/
def execSet5A (s : State) : Out := runSet .i5 (.reg .a) s
/-- `SET 6,B`, R148. -/
def execSet6B (s : State) : Out := runSet .i6 (.reg .b) s
/-- `SET 6,C`, R148. -/
def execSet6C (s : State) : Out := runSet .i6 (.reg .c) s
/-- `SET 6,D`, R148. -/
def execSet6D (s : State) : Out := runSet .i6 (.reg .d) s
/-- `SET 6,E`, R148. -/
def execSet6E (s : State) : Out := runSet .i6 (.reg .e) s
/-- `SET 6,H`, R148. -/
def execSet6H (s : State) : Out := runSet .i6 (.reg .h) s
/-- `SET 6,L`, R148. -/
def execSet6L (s : State) : Out := runSet .i6 (.reg .l) s
/-- `SET 6,(HL)`, R149. -/
def execSet6AtHL (s : State) : Out := runSet .i6 .atHL s
/-- `SET 6,A`, R148. -/
def execSet6A (s : State) : Out := runSet .i6 (.reg .a) s
/-- `SET 7,B`, R148. -/
def execSet7B (s : State) : Out := runSet .i7 (.reg .b) s
/-- `SET 7,C`, R148. -/
def execSet7C (s : State) : Out := runSet .i7 (.reg .c) s
/-- `SET 7,D`, R148. -/
def execSet7D (s : State) : Out := runSet .i7 (.reg .d) s
/-- `SET 7,E`, R148. -/
def execSet7E (s : State) : Out := runSet .i7 (.reg .e) s
/-- `SET 7,H`, R148. -/
def execSet7H (s : State) : Out := runSet .i7 (.reg .h) s
/-- `SET 7,L`, R148. -/
def execSet7L (s : State) : Out := runSet .i7 (.reg .l) s
/-- `SET 7,(HL)`, R149. -/
def execSet7AtHL (s : State) : Out := runSet .i7 .atHL s
/-- `SET 7,A`, R148. -/
def execSet7A (s : State) : Out := runSet .i7 (.reg .a) s

end Sys2Proof.Machine
end

