-- ==== Sys2Proof/Machine/Control.lean ====
section
/-! DEFINITION. Control transfer and the extended prefix (`44_control.md`). -/

namespace Sys2Proof.Machine

/-- `pc <- pc + 2 + e` (`44_control.md` R120). -/
def jumpRelative (e : Byte) (s : State) : Out := .next (s.setPc (s.pc + 2 + offsetOf e))

/-- `JR cc,e` (`44_control.md` R121). -/
def jumpIf (cc : Cond) (e : Byte) (s : State) : Out :=
  if condHolds s cc then jumpRelative e s else .next (s.advance 2)

/-- `RST t` (`44_control.md` R123). -/
def restart (t : Index8) (s : State) : Out := push16 (rstPushed s) s fun s1 => .next (s1.setPc (rstTarget t))

/-- `JR e`, R120. -/
def execJr (e : Byte) (s : State) : Out := jumpRelative e s
/-- `JR NZ,e`, R121. -/
def execJrNZ (e : Byte) (s : State) : Out := jumpIf .nz e s
/-- `JR Z,e`, R121. -/
def execJrZ (e : Byte) (s : State) : Out := jumpIf .z e s
/-- `JR NC,e`, R121. -/
def execJrNC (e : Byte) (s : State) : Out := jumpIf .nc e s
/-- `JR C,e`, R121. -/
def execJrC (e : Byte) (s : State) : Out := jumpIf .c e s
/-- `RST 0x00`, R123. -/
def execRst00 (s : State) : Out := restart .i0 s
/-- `RST 0x08`, R123. -/
def execRst08 (s : State) : Out := restart .i1 s
/-- `RST 0x10`, R123. -/
def execRst10 (s : State) : Out := restart .i2 s
/-- `RST 0x18`, R123. -/
def execRst18 (s : State) : Out := restart .i3 s
/-- `RST 0x20`, R123. -/
def execRst20 (s : State) : Out := restart .i4 s
/-- `RST 0x28`, R123. -/
def execRst28 (s : State) : Out := restart .i5 s
/-- `RST 0x30`, R123. -/
def execRst30 (s : State) : Out := restart .i6 s
/-- `RST 0x38`, R123. -/
def execRst38 (s : State) : Out := restart .i7 s
/-- `CALL nn`, R122. -/
def execCall (nn : Word) (s : State) : Out := push16 (s.pc + 3) s fun s1 => .next (s1.setPc nn)
/-- `PREFIX CB`, R124: the extended byte is looked up (`30_encoding.md` R60); without an entry UnimplementedOpcode is
raised with the extended byte and the address of the prefix, before any state change (D14); with one its operation runs
and PC advances by 2. -/
def execPrefixCB (ext : Byte) (s : State) : Out :=
  match extOpOfByte ext with
  | some op => runExt op s
  | none => raise (.unimplementedOpcode ext) s

end Sys2Proof.Machine
end

