-- ==== Sys2Proof/Machine/Loads.lean ====
section
/-! DEFINITION. Loads and stores (`42_loads.md`). None writes a flag (D7). -/

namespace Sys2Proof.Machine

/-- `LD r,r'` (`42_loads.md` R85). -/
def ldReg (r r' : Reg) (s : State) : Out := .next ((s.setReg r (s.reg r')).advance 1)

/-- `LD r,n` (`42_loads.md` R86). -/
def ldRegImm (r : Reg) (n : Byte) (s : State) : Out := .next ((s.setReg r n).advance 2)

/-- `LD rr,nn` (`42_loads.md` R89). -/
def ldPairImm (p : DataPair) (nn : Word) (s : State) : Out := .next ((s.setPair (pairOf p) nn).advance 3)

/-- A load of A from a byte of memory, length `len` (`42_loads.md` R91, R92, R98, R100). -/
def loadA (addr : Int) (len : Word) (s : State) : Out :=
  withRead addr s fun v => .next ((s.setReg .a v).advance len)

/-- A store of A to a byte of memory, length `len` (`42_loads.md` R97, R99). -/
def storeA (addr : Int) (len : Word) (s : State) : Out :=
  withWrite addr (s.reg .a) s fun s1 => .next (s1.advance len)

/-- `LD (HL+),A` and `LD (HL-),A`: the store at the old HL, then HL plus `delta` (`42_loads.md` R93, R94). -/
def storeAStepHL (delta : Word) (s : State) : Out :=
  withWrite (addrOf (s.pair .hl)) (s.reg .a) s fun s1 =>
    .next ((s1.setPair .hl (s1.pair .hl + delta)).advance 1)

/-- `LD A,(HL+)` and `LD A,(HL-)`: the load at the old HL, then HL plus `delta` (`42_loads.md` R95, R96). -/
def loadAStepHL (delta : Word) (s : State) : Out :=
  withRead (addrOf (s.pair .hl)) s fun v =>
    .next (((s.setReg .a v).setPair .hl (s.pair .hl + delta)).advance 1)

/-- `LD B,B`, R85. -/
def execLdBFromB (s : State) : Out := ldReg .b .b s
/-- `LD B,C`, R85. -/
def execLdBFromC (s : State) : Out := ldReg .b .c s
/-- `LD B,D`, R85. -/
def execLdBFromD (s : State) : Out := ldReg .b .d s
/-- `LD B,E`, R85. -/
def execLdBFromE (s : State) : Out := ldReg .b .e s
/-- `LD B,H`, R85. -/
def execLdBFromH (s : State) : Out := ldReg .b .h s
/-- `LD B,L`, R85. -/
def execLdBFromL (s : State) : Out := ldReg .b .l s
/-- `LD B,A`, R85. -/
def execLdBFromA (s : State) : Out := ldReg .b .a s
/-- `LD C,B`, R85. -/
def execLdCFromB (s : State) : Out := ldReg .c .b s
/-- `LD C,C`, R85. -/
def execLdCFromC (s : State) : Out := ldReg .c .c s
/-- `LD C,D`, R85. -/
def execLdCFromD (s : State) : Out := ldReg .c .d s
/-- `LD C,E`, R85. -/
def execLdCFromE (s : State) : Out := ldReg .c .e s
/-- `LD C,H`, R85. -/
def execLdCFromH (s : State) : Out := ldReg .c .h s
/-- `LD C,L`, R85. -/
def execLdCFromL (s : State) : Out := ldReg .c .l s
/-- `LD C,A`, R85. -/
def execLdCFromA (s : State) : Out := ldReg .c .a s
/-- `LD D,B`, R85. -/
def execLdDFromB (s : State) : Out := ldReg .d .b s
/-- `LD D,C`, R85. -/
def execLdDFromC (s : State) : Out := ldReg .d .c s
/-- `LD D,D`, R85. -/
def execLdDFromD (s : State) : Out := ldReg .d .d s
/-- `LD D,E`, R85. -/
def execLdDFromE (s : State) : Out := ldReg .d .e s
/-- `LD D,H`, R85. -/
def execLdDFromH (s : State) : Out := ldReg .d .h s
/-- `LD D,L`, R85. -/
def execLdDFromL (s : State) : Out := ldReg .d .l s
/-- `LD D,A`, R85. -/
def execLdDFromA (s : State) : Out := ldReg .d .a s
/-- `LD E,B`, R85. -/
def execLdEFromB (s : State) : Out := ldReg .e .b s
/-- `LD E,C`, R85. -/
def execLdEFromC (s : State) : Out := ldReg .e .c s
/-- `LD E,D`, R85. -/
def execLdEFromD (s : State) : Out := ldReg .e .d s
/-- `LD E,E`, R85. -/
def execLdEFromE (s : State) : Out := ldReg .e .e s
/-- `LD E,H`, R85. -/
def execLdEFromH (s : State) : Out := ldReg .e .h s
/-- `LD E,L`, R85. -/
def execLdEFromL (s : State) : Out := ldReg .e .l s
/-- `LD E,A`, R85. -/
def execLdEFromA (s : State) : Out := ldReg .e .a s
/-- `LD H,B`, R85. -/
def execLdHFromB (s : State) : Out := ldReg .h .b s
/-- `LD H,C`, R85. -/
def execLdHFromC (s : State) : Out := ldReg .h .c s
/-- `LD H,D`, R85. -/
def execLdHFromD (s : State) : Out := ldReg .h .d s
/-- `LD H,E`, R85. -/
def execLdHFromE (s : State) : Out := ldReg .h .e s
/-- `LD H,H`, R85. -/
def execLdHFromH (s : State) : Out := ldReg .h .h s
/-- `LD H,L`, R85. -/
def execLdHFromL (s : State) : Out := ldReg .h .l s
/-- `LD H,A`, R85. -/
def execLdHFromA (s : State) : Out := ldReg .h .a s
/-- `LD L,B`, R85. -/
def execLdLFromB (s : State) : Out := ldReg .l .b s
/-- `LD L,C`, R85. -/
def execLdLFromC (s : State) : Out := ldReg .l .c s
/-- `LD L,D`, R85. -/
def execLdLFromD (s : State) : Out := ldReg .l .d s
/-- `LD L,E`, R85. -/
def execLdLFromE (s : State) : Out := ldReg .l .e s
/-- `LD L,H`, R85. -/
def execLdLFromH (s : State) : Out := ldReg .l .h s
/-- `LD L,L`, R85. -/
def execLdLFromL (s : State) : Out := ldReg .l .l s
/-- `LD L,A`, R85. -/
def execLdLFromA (s : State) : Out := ldReg .l .a s
/-- `LD A,B`, R85. -/
def execLdAFromB (s : State) : Out := ldReg .a .b s
/-- `LD A,C`, R85. -/
def execLdAFromC (s : State) : Out := ldReg .a .c s
/-- `LD A,D`, R85. -/
def execLdAFromD (s : State) : Out := ldReg .a .d s
/-- `LD A,E`, R85. -/
def execLdAFromE (s : State) : Out := ldReg .a .e s
/-- `LD A,H`, R85. -/
def execLdAFromH (s : State) : Out := ldReg .a .h s
/-- `LD A,L`, R85. -/
def execLdAFromL (s : State) : Out := ldReg .a .l s
/-- `LD A,A`, R85. -/
def execLdAFromA (s : State) : Out := ldReg .a .a s
/-- `LD (nn),SP`, R88. -/
def execLdAtImmFromSP (nn : Word) (s : State) : Out :=
  withWrite (addrOf nn) (lowByte s.sp) s fun s1 =>
    withWrite (addrOf nn + 1) (highByte s1.sp) s1 fun s2 => .next (s2.advance 3)
/-- `LD B,n`, R86. -/
def execLdBImm (n : Byte) (s : State) : Out := ldRegImm .b n s
/-- `LD C,n`, R86. -/
def execLdCImm (n : Byte) (s : State) : Out := ldRegImm .c n s
/-- `LD D,n`, R86. -/
def execLdDImm (n : Byte) (s : State) : Out := ldRegImm .d n s
/-- `LD E,n`, R86. -/
def execLdEImm (n : Byte) (s : State) : Out := ldRegImm .e n s
/-- `LD H,n`, R86. -/
def execLdHImm (n : Byte) (s : State) : Out := ldRegImm .h n s
/-- `LD L,n`, R86. -/
def execLdLImm (n : Byte) (s : State) : Out := ldRegImm .l n s
/-- `LD A,n`, R86. -/
def execLdAImm (n : Byte) (s : State) : Out := ldRegImm .a n s
/-- `LD (HL),n`, R87. -/
def execLdAtHLImm (n : Byte) (s : State) : Out :=
  withWrite (addrOf (s.pair .hl)) n s fun s1 => .next (s1.advance 2)
/-- `LD BC,nn`, R89. -/
def execLdBCImm (nn : Word) (s : State) : Out := ldPairImm .bc nn s
/-- `LD DE,nn`, R89. -/
def execLdDEImm (nn : Word) (s : State) : Out := ldPairImm .de nn s
/-- `LD HL,nn`, R89. -/
def execLdHLImm (nn : Word) (s : State) : Out := ldPairImm .hl nn s
/-- `LD SP,nn`, R90. -/
def execLdSPImm (nn : Word) (s : State) : Out := .next ((s.setSp nn).advance 3)
/-- `LD A,(BC)`, R91. -/
def execLdAFromAtBC (s : State) : Out := loadA (addrOf (s.pair .bc)) 1 s
/-- `LD A,(DE)`, R91. -/
def execLdAFromAtDE (s : State) : Out := loadA (addrOf (s.pair .de)) 1 s
/-- `LD A,(HL)`, R92. -/
def execLdAFromAtHL (s : State) : Out := loadA (addrOf (s.pair .hl)) 1 s
/-- `LD (HL+),A`, R93. -/
def execLdAtHLIncFromA (s : State) : Out := storeAStepHL 1 s
/-- `LD (HL-),A`, R94. -/
def execLdAtHLDecFromA (s : State) : Out := storeAStepHL (-1) s
/-- `LD A,(HL+)`, R95. -/
def execLdAFromAtHLInc (s : State) : Out := loadAStepHL 1 s
/-- `LD A,(HL-)`, R96. -/
def execLdAFromAtHLDec (s : State) : Out := loadAStepHL (-1) s
/-- `LD (0xFF00+n),A`, R97. -/
def execLdHighImmFromA (n : Byte) (s : State) : Out := storeA (highAddr n) 2 s
/-- `LD A,(0xFF00+n)`, R98. -/
def execLdAFromHighImm (n : Byte) (s : State) : Out := loadA (highAddr n) 2 s
/-- `LD (0xFF00+C),A`, R99. -/
def execLdHighCFromA (s : State) : Out := storeA (highAddr (s.reg .c)) 1 s
/-- `LD A,(0xFF00+C)`, R100. -/
def execLdAFromHighC (s : State) : Out := loadA (highAddr (s.reg .c)) 1 s

end Sys2Proof.Machine
end

