-- ==== Sys2Proof/Machine/Stack.lean ====
section
/-! DEFINITION. Register-pair push and pop (`41_stack.md`). -/

namespace Sys2Proof.Machine

/-- `PUSH rr` (`41_stack.md` R80). -/
def pushPair (p : Pair) (s : State) : Out := push16 (s.pair p) s fun s1 => .next (s1.advance 1)

/-- `POP rr` (`41_stack.md` R81): `POP AF` writes all eight bits of F (D23). -/
def popPair (p : Pair) (s : State) : Out := pop16 s fun v s1 => .next ((s1.setPair p v).advance 1)

/-- `PUSH BC`, R80. -/
def execPushBC (s : State) : Out := pushPair .bc s
/-- `PUSH DE`, R80. -/
def execPushDE (s : State) : Out := pushPair .de s
/-- `PUSH HL`, R80. -/
def execPushHL (s : State) : Out := pushPair .hl s
/-- `PUSH AF`, R80. -/
def execPushAF (s : State) : Out := pushPair .af s
/-- `POP BC`, R81. -/
def execPopBC (s : State) : Out := popPair .bc s
/-- `POP DE`, R81. -/
def execPopDE (s : State) : Out := popPair .de s
/-- `POP HL`, R81. -/
def execPopHL (s : State) : Out := popPair .hl s
/-- `POP AF`, R81. -/
def execPopAF (s : State) : Out := popPair .af s

end Sys2Proof.Machine
end

