-- ==== Sys2Proof/Machine/Loop.lean ====
section
/-! DEFINITION. The fetch-execute loop controller (`40_fetch_execute.md`): what happens around one instruction. -/

namespace Sys2Proof.Machine

/-- The bytes at pc and the two after it, as far as memory goes (`30_encoding.md` R50, R52): at most three, fewer at the
top of the address space. Reading has no side effect (`20_memory.md` R30). -/
def fetchBytes (s : State) : List Byte :=
  ((List.range 3).filter fun k => decide (s.pc.toNat + k ≤ 0xFFFF)).map fun k => s.byteAt (s.pc.toNat + k)

/-- The fault of a fetch that finds no instruction: an undefined opcode (`40_fetch_execute.md` R70 step 3), or an
operand byte outside the address space (`20_memory.md` R36). -/
def fetchFault (s : State) : DecodeError → FaultKind
  | .unimplementedOpcode op => .unimplementedOpcode op
  | .missingByte k => .addressOutOfRange (addrOf s.pc + k)

/-- Steps 2 to 4 of `40_fetch_execute.md` R70: fetch, decode, and the instruction by `run`. -/
def fetchThen (run : Instr → State → Out) (s : State) : Out :=
  match decode (fetchBytes s) with
  | .ok (i, _) => run i s
  | .error err => raise (fetchFault s err) s

/-- What the host does to its flags after a sample (`10_state.md` R21): the core may clear the step-acknowledged flag (a
free value, log entry 6), and the host drives what `hostNext` lists next; with nothing listed the run flag keeps its
value (log entry 4). DESIGN CHOICE (log entry 17): between the same two instructions the core clears first and the host
raises after, so a raise is never cleared in its own turn; `91_not_in_source.md` N6 leaves that order open. -/
def hostTurn (s : State) : State :=
  let ack := s.stepAck && !Config.stepAckClears s.freeIndex
  match s.hostNext with
  | [] => { s with stepAck := ack, freeIndex := s.freeIndex + 1 }
  | x :: xs =>
    { s with
      runFlag := x.runFlag
      stepAck := ack || x.raiseStepAck
      hostNext := xs
      freeIndex := s.freeIndex + 1 }

/-- One step of `40_fetch_execute.md` R70: taken only while the run state is `RUNNING`; the run flag is sampled first
(R71); `STOPPED` and `FAULTED` stay as they are (`10_state.md` R20, `60_exceptions.md` R168). -/
def loopStep (run : Instr → State → Out) (s : State) : Out :=
  match s.runState with
  | .running => if s.runFlag then fetchThen run (hostTurn s) else .next { s with runState := .stopped }
  | .stopped => .next s
  | .faulted _ => .next s

/-- A byte stored at offset k from pc where the address space has one. -/
def storeAtPc (s : State) (k : Nat) (v : Byte) : State :=
  if s.pc.toNat + k ≤ 0xFFFF then s.store (s.pc.toNat + k) v else s

/-- The state with three bytes at pc, about to fetch: the run state `RUNNING` and the run flag true, as a launch by the
host leaves them (`70_reset_and_hazards.md` R188). -/
def placeAtPc (s : State) (b0 b1 b2 : Byte) : State :=
  { storeAtPc (storeAtPc (storeAtPc s 0 b0) 1 b1) 2 b2 with runState := .running, runFlag := true }

/-- The state whose next fetch is the instruction of a table word (log entry 8). -/
def placeTableWord (s : State) (nbits w : Nat) : State :=
  match tableWordBytes nbits w with
  | [b0, b1, b2] => placeAtPc s b0 b1 b2
  | _ => s

end Sys2Proof.Machine
end

