-- ==== Sys2Proof/Machine/Launch.lean ====
section
/-! DEFINITION. What the host does before and after a run: the ROM loader and the snapshot loader and saver
(`70_reset_and_hazards.md` R187, R188). -/

namespace Sys2Proof.Machine

/-- Bytes stored from an address upward, as far as the address space goes. -/
def storeFrom (s : State) (at0 : Nat) : List Byte → State
  | [] => s
  | v :: vs => storeFrom (if at0 ≤ 0xFFFF then s.store at0 v else s) (at0 + 1) vs

/-- The ROM loader (`70_reset_and_hazards.md` R187, `20_memory.md` R37): byte a of the image goes to address a, bytes
above the image keep their value. Bytes of an image beyond 65536 have no address and are dropped (log entry 7). -/
def loadRom (image : List Byte) (s : State) : State := storeFrom s 0 image

/-- What a snapshot holds: "all registers, flags, PC, SP, and the full memory array" (`70_reset_and_hazards.md` R188). -/
structure Snapshot where
  b : Byte
  c : Byte
  d : Byte
  e : Byte
  h : Byte
  l : Byte
  a : Byte
  f : Byte
  pc : Word
  sp : Word
  mem : Memory
  deriving DecidableEq, Repr

/-- The start of a run from a snapshot, the parameter `LAUNCH_STATE` (`00_scope.md` R5, `70_reset_and_hazards.md` R188):
run state `RUNNING`, no fault record, the run flag as the host drives it (`10_state.md` R21). -/
def launch (snap : Snapshot) (runFlag : Bool) (s : State) : State :=
  { s with
    b := snap.b
    c := snap.c
    d := snap.d
    e := snap.e
    h := snap.h
    l := snap.l
    a := snap.a
    f := snap.f
    pc := snap.pc
    sp := snap.sp
    mem := snap.mem
    runState := .running
    runFlag := runFlag }

/-- The snapshot of a state. -/
def snapshotOf (s : State) : Snapshot := ⟨s.b, s.c, s.d, s.e, s.h, s.l, s.a, s.f, s.pc, s.sp, s.mem⟩

/-- The snapshot saver: it may read the whole state when the run state is `STOPPED` or `FAULTED`
(`70_reset_and_hazards.md` R188). -/
def saveSnapshot (s : State) : Option Snapshot :=
  match s.runState with
  | .running => none
  | .stopped => some (snapshotOf s)
  | .faulted _ => some (snapshotOf s)

end Sys2Proof.Machine
end

