-- ==== Sys2Proof/Machine/Ports.lean ====
section
/-! DEFINITION. What the block hands to the host and the diagnostic sink (`40_fetch_execute.md` R75, R76): outputs, read
from the state and read back by nothing. -/

namespace Sys2Proof.Machine

/-- "current PC, opcode, decoded mnemonic" (`40_fetch_execute.md` R75); the instruction stands for its mnemonic, and is
none where the bytes are no instruction. -/
structure TraceLine where
  pc : Word
  opcode : Byte
  instr : Option Instr
  deriving DecidableEq, Repr

/-- The trace line the core may hand over for the instruction the next step fetches; none when it fetches none. -/
def traceLine (s : State) : Option TraceLine :=
  match s.runState, s.runFlag with
  | .running, true =>
    some ⟨s.pc, s.byteAt s.pc.toNat, (decode (fetchBytes s)).toOption.map Prod.fst⟩
  | _, _ => none

/-- The state dump: "all registers, flags, PC, SP" (`60_exceptions.md` R160, `40_fetch_execute.md` R76). -/
structure Dump where
  a : Byte
  f : Byte
  b : Byte
  c : Byte
  d : Byte
  e : Byte
  h : Byte
  l : Byte
  flagZ : Bool
  flagN : Bool
  flagH : Bool
  flagC : Bool
  pc : Word
  sp : Word
  deriving DecidableEq, Repr

/-- The dump of a state. -/
def dumpOf (s : State) : Dump :=
  ⟨s.a, s.f, s.b, s.c, s.d, s.e, s.h, s.l, s.flagZ, s.flagN, s.flagH, s.flagC, s.pc, s.sp⟩

/-- The fault report: the record with the dump (`60_exceptions.md` R160, R164); with it the host process exits with "a
non-zero exit". -/
def faultReport (s : State) : Option (FaultRecord × Dump) :=
  match s.runState with
  | .faulted record => some (record, dumpOf s)
  | .running => none
  | .stopped => none

/-- The final state handed to the host when the run state is `STOPPED` (`40_fetch_execute.md` R71, R76). -/
def finalReport (s : State) : Option Dump :=
  match s.runState with
  | .stopped => some (dumpOf s)
  | .running => none
  | .faulted _ => none

/-- Whether the host process exits with a non-zero status: it does after a fault (`60_exceptions.md` R160). DESIGN CHOICE
(log entry 18): false after a run that ended `STOPPED`, of whose exit status the spec says nothing; false while
`RUNNING`, where no process has exited. -/
def exitsNonZero (s : State) : Bool := (faultReport s).isSome

end Sys2Proof.Machine
end

