-- ==== Sys2Proof/Safety.lean ====
section
/-! DEFINITION. What counts as a safe run and a final state, the invariant of the machine, and the words in which claims
say what an instruction leaves unchanged. -/

namespace Sys2Proof.Machine

/-! ## Runs -/

/-- A state in which no fault was raised (`60_exceptions.md` R160). -/
def Safe (s : State) : Prop := ∀ record, s.runState ≠ .faulted record

/-- A final state of a run: `STOPPED` (`40_fetch_execute.md` R74 (a)); a `FAULTED` state is never final (R165). -/
def Final (s : State) : Prop := s.runState = .stopped

/-- The outcome of an instruction or step that raises a fault: a state whose run state is `FAULTED` with this record. It
says nothing of the registers and the memory of that state (`60_exceptions.md` R165). -/
def FaultsWith (o : Out) (k : FaultKind) (pc : Word) : Prop := ∃ t, o = .next t ∧ t.runState = .faulted ⟨k, pc⟩

/-- The step is about to fetch: run state `RUNNING` and the run flag sampled true (`40_fetch_execute.md` R70, R71). -/
def AboutToFetch (s : State) : Prop := s.runState = .running ∧ s.runFlag = true

/-- The 135 primary opcode values that `30_encoding.md` R62 lists as undefined. -/
def undefinedPrimary (op : Byte) : Bool :=
  [0x00, 0x02, 0x07, 0x09, 0x0B, 0x0F, 0x10, 0x12, 0x19, 0x1B, 0x1F, 0x27, 0x29, 0x2B, 0x2F, 0x33, 0x34, 0x35, 0x37,
    0x39, 0x3B, 0x3F, 0x46, 0x4E, 0x56, 0x5E, 0x66, 0x6E, 0x70, 0x71, 0x72, 0x73, 0x74, 0x75, 0x76, 0x77].contains op.toNat
  || (decide (0x80 ≤ op.toNat) && decide (op.toNat ≤ 0xA7))
  || op.toNat == 0xAE
  || (decide (0xB0 ≤ op.toNat) && decide (op.toNat ≤ 0xBF))
  || [0xC0, 0xC2, 0xC3, 0xC4, 0xC6, 0xC8, 0xC9, 0xCA, 0xCC, 0xCE, 0xD0, 0xD2, 0xD3, 0xD4, 0xD6, 0xD8, 0xD9, 0xDA, 0xDB,
    0xDC, 0xDD, 0xDE, 0xE3, 0xE4, 0xE6, 0xE8, 0xE9, 0xEA, 0xEB, 0xEC, 0xED, 0xEE, 0xF3, 0xF4, 0xF6, 0xF8, 0xF9, 0xFA,
    0xFB, 0xFC, 0xFD, 0xFE].contains op.toNat

/-! ## The invariant -/

/-- What a fault record may say of the state it stands in (`60_exceptions.md` R161 to R163): an undefined opcode is the
byte at pc, or a byte 0x30 to 0x37 after a prefix at pc; an address is one of the two that R36 names; no register name
is ever invalid. -/
def FaultKindOk (s : State) : FaultKind → Prop
  | .unimplementedOpcode op =>
    (undefinedPrimary op = true ∧ s.byteAt s.pc.toNat = op) ∨
    (extUndefined op = true ∧ s.byteAt s.pc.toNat = 0xCB ∧ s.pc.toNat + 1 ≤ 0xFFFF ∧ s.byteAt (s.pc.toNat + 1) = op)
  | .addressOutOfRange addr => addr = -1 ∨ addr = 0x10000
  | .invalidRegisterName _ => False

/-- The invariant of the machine: memory is in canonical form, and a fault record names the PC that the state holds (no
instruction writes PC before it raises, `60_exceptions.md` R165) and a fault that can have been raised there. -/
def StateInv (s : State) : Prop :=
  Memory.wf s.mem = true ∧ ∀ record, s.runState = .faulted record → record.pc = s.pc ∧ FaultKindOk s record.kind

/-! ## Frames -/

/-- Every 8-bit register outside `rs` is as it was; F is said apart. -/
def SameRegsExcept (rs : List Reg) (s t : State) : Prop := ∀ r, r ∉ rs → t.reg r = s.reg r

/-- Every byte of memory outside `as` reads as it did. -/
def SameMemoryExcept (as : List Nat) (s t : State) : Prop := ∀ x, x ∉ as → t.byteAt x = s.byteAt x

/-- The run state, the host's flags and samples, the parameter and the free-value index are as they were. -/
def SameControl (s t : State) : Prop :=
  t.runState = s.runState ∧ t.runFlag = s.runFlag ∧ t.stepAck = s.stepAck ∧ t.hostNext = s.hostNext ∧
    t.rstPushDelta = s.rstPushDelta ∧ t.freeIndex = s.freeIndex

/-- The frame of an instruction that may write the registers `rs` and the bytes at `as`; F, SP and PC are said apart. -/
def Frame (rs : List Reg) (as : List Nat) (s t : State) : Prop :=
  SameRegsExcept rs s t ∧ SameMemoryExcept as s t ∧ SameControl s t

/-- Bits 3:0 of F are as they were (`10_state.md` R15). -/
def SameLowF (s t : State) : Prop := ∀ i, i < 4 → t.f.getLsbD i = s.f.getLsbD i

/-- Registers, F, PC, SP, memory and the parameter are the same: two such states differ only in what the loop controller
and the host hold (`10_state.md` R20, R21). -/
def SameProgramState (s t : State) : Prop :=
  SameRegsExcept [] s t ∧ t.f = s.f ∧ t.pc = s.pc ∧ t.sp = s.sp ∧ t.mem = s.mem ∧ t.rstPushDelta = s.rstPushDelta

/-- The 8-bit registers a pair is made of, F apart (`10_state.md` R11). -/
def regsOf : Pair → List Reg
  | .bc => [.b, .c]
  | .de => [.d, .e]
  | .hl => [.h, .l]
  | .af => [.a]

/-- The value of the operand x of an extended operation. -/
def operandValue (x : Operand8) (s : State) : Byte :=
  match x with
  | .reg r => s.reg r
  | .atHL => s.byteAt (s.pair .hl).toNat

/-- The bytes an instruction that completes stores, each with its address: the writes of the table of `20_memory.md` R35.
A push, call or restart completes from SP at least 2, and `LD (nn),SP` from nn below 0xFFFF (R36). -/
inductive StoresByte (s : State) : Instr → Nat → Byte → Prop where
  | pushHigh (p : Pair) (h : 2 ≤ s.sp.toNat) :
      StoresByte s (pushInstr p) (addrOf s.sp - 1).toNat (highByte (s.pair p))
  | pushLow (p : Pair) (h : 2 ≤ s.sp.toNat) : StoresByte s (pushInstr p) (addrOf s.sp - 2).toNat (lowByte (s.pair p))
  | callHigh (nn : Word) (h : 2 ≤ s.sp.toNat) :
      StoresByte s (.call nn) (addrOf s.sp - 1).toNat (highByte (s.pc + 3))
  | callLow (nn : Word) (h : 2 ≤ s.sp.toNat) : StoresByte s (.call nn) (addrOf s.sp - 2).toNat (lowByte (s.pc + 3))
  | rstHigh (k : Index8) (h : 2 ≤ s.sp.toNat) :
      StoresByte s (rstInstr k) (addrOf s.sp - 1).toNat (highByte (rstPushed s))
  | rstLow (k : Index8) (h : 2 ≤ s.sp.toNat) : StoresByte s (rstInstr k) (addrOf s.sp - 2).toNat (lowByte (rstPushed s))
  | spLow (nn : Word) (h : nn.toNat < 0xFFFF) : StoresByte s (.ldAtImmFromSP nn) (addrOf nn).toNat (lowByte s.sp)
  | spHigh (nn : Word) (h : nn.toNat < 0xFFFF) : StoresByte s (.ldAtImmFromSP nn) (addrOf nn + 1).toNat (highByte s.sp)
  | atHLImm (n : Byte) : StoresByte s (.ldAtHLImm n) (addrOf (s.pair .hl)).toNat n
  | atHLInc : StoresByte s .ldAtHLIncFromA (addrOf (s.pair .hl)).toNat (s.reg .a)
  | atHLDec : StoresByte s .ldAtHLDecFromA (addrOf (s.pair .hl)).toNat (s.reg .a)
  | highImm (n : Byte) : StoresByte s (.ldHighImmFromA n) (highAddr n).toNat (s.reg .a)
  | highC : StoresByte s .ldHighCFromA (highAddr (s.reg .c)).toNat (s.reg .a)
  | shift (op : ShiftOp) :
      StoresByte s (shiftInstr op .atHL) (addrOf (s.pair .hl)).toNat (shiftResult op (operandValue .atHL s) s.flagC)
  | res (b : Index8) :
      StoresByte s (resInstr b .atHL) (addrOf (s.pair .hl)).toNat (putBit (operandValue .atHL s) (indexNat b) false)
  | set (b : Index8) :
      StoresByte s (setInstr b .atHL) (addrOf (s.pair .hl)).toNat (putBit (operandValue .atHL s) (indexNat b) true)
  | prefixed {op : ExtOp} {ext : Byte} {x : Nat} {v : Byte} (he : encode (extInstr op) = [0xCB, ext])
      (h : StoresByte s (extInstr op) x v) : StoresByte s (.prefixCB ext) x v

/-- One instruction run n times. -/
def execTimes (i : Instr) : Nat → State → Out
  | 0, s => .next s
  | n + 1, s =>
    match exec i s with
    | .next t => execTimes i n t
    | .fault r => .fault r
    | .refused r => .refused r

end Sys2Proof.Machine
end

