-- ==== Sys2Proof/Certificates/Slice0/Obligations.lean ====
section
/-! DEFINITION. The statements about the model, one definition each; `OBLIGATIONS.json` lists them with the rules they
rest on. Every statement holds in every state its premises admit, not only in states a run reaches. -/

open Sys2Proof Sys2Proof.Machine

/-- For every pair rr and every state with canonical memory and SP at least 2, exec of PUSH rr answers a next state: the
byte at SP-1 is the high byte of the pair, the byte at SP-2 its low byte, SP is 2 lower, PC 1 higher, every
register, F, every other byte of memory and all control state unchanged. With SP 0 or 1 the outcome is FAULTED with
record (AddressOutOfRange(-1), pc); that these addresses fault instead of wrapping is the spec's own choice D8. -/
def Obligations.PushStoresPair : Prop :=
  ∀ (p : Pair) (s : State),
    (Memory.wf s.mem = true → 2 ≤ s.sp.toNat → ∃ t, exec (pushInstr p) s = .next t ∧
      t.byteAt (addrOf s.sp - 1).toNat = highByte (s.pair p) ∧
      t.byteAt (addrOf s.sp - 2).toNat = lowByte (s.pair p) ∧
      t.sp = s.sp - 2 ∧ t.pc = s.pc + 1 ∧ t.f = s.f ∧
      Frame [] [(addrOf s.sp - 1).toNat, (addrOf s.sp - 2).toNat] s t) ∧
    (s.sp.toNat ≤ 1 → FaultsWith (exec (pushInstr p) s) (.addressOutOfRange (-1)) s.pc)

/-- For every pair rr and every state with SP below 0xFFFF, exec of POP rr answers a next state: the pair is the byte at
SP+1 over the byte at SP, for AF the whole of F is the low byte (the spec's own choice D23), SP is 2 higher modulo
65536, PC 1 higher, the registers outside the pair, F for the pairs other than AF, all of memory and all control
state unchanged. With SP = 0xFFFF the outcome is FAULTED with record (AddressOutOfRange(0x10000), pc) (the spec's
own choice D8). -/
def Obligations.PopLoadsPair : Prop :=
  ∀ (p : Pair) (s : State),
    (s.sp.toNat < 0xFFFF → ∃ t, exec (popInstr p) s = .next t ∧
      t.pair p = wordOf (s.byteAt (s.sp.toNat + 1)) (s.byteAt s.sp.toNat) ∧
      (p = .af → t.f = s.byteAt s.sp.toNat) ∧ (p ≠ .af → t.f = s.f) ∧
      t.sp = s.sp + 2 ∧ t.pc = s.pc + 1 ∧ Frame (regsOf p) [] s t) ∧
    (s.sp.toNat = 0xFFFF → FaultsWith (exec (popInstr p) s) (.addressOutOfRange 0x10000) s.pc)

/-- For all pairs rr and qq and every state with canonical memory and SP at least 2: PUSH rr answers a next state, POP
qq from there answers a next state, in it the pair qq holds the value rr had and SP is its starting value. With rr =
qq it is GBEMU's property pop(push(pair, sp)) == (pair, sp); for AF all eight bits of F come back. -/
def Obligations.PushThenPopRestores : Prop :=
  ∀ (p q : Pair) (s : State), Memory.wf s.mem = true → 2 ≤ s.sp.toNat →
    ∃ t u, exec (pushInstr p) s = .next t ∧ exec (popInstr q) t = .next u ∧ u.pair q = s.pair p ∧ u.sp = s.sp

/-- For all registers r and r' among B, C, D, E, H, L, A and every state, exec of LD r,r' answers a next state in which
r holds what r' held, every other register, F, SP, all of memory and all control state are unchanged, and PC is 1
higher. -/
def Obligations.LdRegCopiesRegister : Prop :=
  ∀ (r r' : Reg) (s : State), ∃ t, exec (ldInstr r r') s = .next t ∧
    t.reg r = s.reg r' ∧ t.f = s.f ∧ t.sp = s.sp ∧ t.pc = s.pc + 1 ∧ Frame [r] [] s t

/-- For every register r, byte n and state, exec of LD r,n answers a next state in which r holds n, every other
register, F, SP, all of memory and all control state are unchanged, and PC is 2 higher. (The fault on the operand
byte is OperandOffTheEndFaults.) -/
def Obligations.LdImmLoadsRegister : Prop :=
  ∀ (r : Reg) (n : Byte) (s : State), ∃ t, exec (ldImmInstr r n) s = .next t ∧
    t.reg r = n ∧ t.f = s.f ∧ t.sp = s.sp ∧ t.pc = s.pc + 2 ∧ Frame [r] [] s t

/-- For every byte n and every state with canonical memory, exec of LD (HL),n answers a next state in which the byte at
HL is n, every other byte of memory, every register, F, SP and all control state are unchanged, and PC is 2 higher. -/
def Obligations.LdAtHLStoresImmediate : Prop :=
  ∀ (n : Byte) (s : State), Memory.wf s.mem = true → ∃ t, exec (.ldAtHLImm n) s = .next t ∧
    t.byteAt (addrOf (s.pair .hl)).toNat = n ∧ t.f = s.f ∧ t.sp = s.sp ∧ t.pc = s.pc + 2 ∧
    Frame [] [(addrOf (s.pair .hl)).toNat] s t

/-- For every nn below 0xFFFF and every state with canonical memory, exec of LD (nn),SP answers a next state in which
the byte at nn is the low byte of SP and the byte at nn+1 its high byte, every other byte of memory, every register,
F, SP and all control state are unchanged, and PC is 3 higher. With nn = 0xFFFF the outcome is FAULTED with record
(AddressOutOfRange(0x10000), pc) (the spec's own choice D8). -/
def Obligations.LdAtImmStoresStackPointer : Prop :=
  ∀ (nn : Word) (s : State),
    (Memory.wf s.mem = true → nn.toNat < 0xFFFF → ∃ t, exec (.ldAtImmFromSP nn) s = .next t ∧
      t.byteAt (addrOf nn).toNat = lowByte s.sp ∧ t.byteAt (addrOf nn + 1).toNat = highByte s.sp ∧
      t.f = s.f ∧ t.sp = s.sp ∧ t.pc = s.pc + 3 ∧
      Frame [] [(addrOf nn).toNat, (addrOf nn + 1).toNat] s t) ∧
    (nn.toNat = 0xFFFF → FaultsWith (exec (.ldAtImmFromSP nn) s) (.addressOutOfRange 0x10000) s.pc)

/-- For every pair rr among BC, DE, HL, every nn and every state, exec of LD rr,nn answers a next state in which the
pair is nn, every register outside the pair, F, SP, all of memory and all control state are unchanged, and PC is 3
higher; exec of LD SP,nn answers a next state in which SP is nn, every register, F, all of memory and all control
state are unchanged, and PC is 3 higher. -/
def Obligations.LdPairImmLoadsPair : Prop :=
  ∀ (nn : Word) (s : State),
    (∀ p : DataPair, ∃ t, exec (ldPairImmInstr p nn) s = .next t ∧ t.pair (pairOf p) = nn ∧
      t.f = s.f ∧ t.sp = s.sp ∧ t.pc = s.pc + 3 ∧ Frame (regsOf (pairOf p)) [] s t) ∧
    (∃ t, exec (.ldSPImm nn) s = .next t ∧ t.sp = nn ∧ t.f = s.f ∧ t.pc = s.pc + 3 ∧ Frame [] [] s t)

/-- For every pair rr among BC, DE, HL and every state, exec of LD A,(rr) answers a next state in which A is the byte of
memory at the address the pair holds, every other register, F, SP, all of memory and all control state are
unchanged, and PC is 1 higher. -/
def Obligations.LdAFromPairAddressLoads : Prop :=
  ∀ (p : DataPair) (s : State), ∃ t, exec (ldAFromAtInstr p) s = .next t ∧
    t.reg .a = s.byteAt (addrOf (s.pair (pairOf p))).toNat ∧
    t.f = s.f ∧ t.sp = s.sp ∧ t.pc = s.pc + 1 ∧ Frame [.a] [] s t

/-- For every state with canonical memory, exec of LD (HL+),A answers a next state in which the byte at the old HL is A
and HL is one higher modulo 65536, and exec of LD (HL-),A one in which the byte at the old HL is A and HL is one
lower; every other byte of memory, every register but H and L, F, SP and all control state are unchanged, and PC is
1 higher. -/
def Obligations.AutoStepStoresThenStepsHL : Prop :=
  ∀ s : State, Memory.wf s.mem = true →
    (∃ t, exec .ldAtHLIncFromA s = .next t ∧ t.byteAt (addrOf (s.pair .hl)).toNat = s.reg .a ∧
      t.pair .hl = s.pair .hl + 1 ∧ t.f = s.f ∧ t.sp = s.sp ∧ t.pc = s.pc + 1 ∧
      Frame [.h, .l] [(addrOf (s.pair .hl)).toNat] s t) ∧
    (∃ t, exec .ldAtHLDecFromA s = .next t ∧ t.byteAt (addrOf (s.pair .hl)).toNat = s.reg .a ∧
      t.pair .hl = s.pair .hl - 1 ∧ t.f = s.f ∧ t.sp = s.sp ∧ t.pc = s.pc + 1 ∧
      Frame [.h, .l] [(addrOf (s.pair .hl)).toNat] s t)

/-- For every state, exec of LD A,(HL+) answers a next state in which A is the byte at the old HL and HL is one higher
modulo 65536, and exec of LD A,(HL-) one in which HL is one lower; every register but A, H and L, F, SP, all of
memory and all control state are unchanged, and PC is 1 higher. That the family has these loads is the spec's own
choice D2. -/
def Obligations.AutoStepLoadsThenStepsHL : Prop :=
  ∀ s : State,
    (∃ t, exec .ldAFromAtHLInc s = .next t ∧ t.reg .a = s.byteAt (addrOf (s.pair .hl)).toNat ∧
      t.pair .hl = s.pair .hl + 1 ∧ t.f = s.f ∧ t.sp = s.sp ∧ t.pc = s.pc + 1 ∧ Frame [.a, .h, .l] [] s t) ∧
    (∃ t, exec .ldAFromAtHLDec s = .next t ∧ t.reg .a = s.byteAt (addrOf (s.pair .hl)).toNat ∧
      t.pair .hl = s.pair .hl - 1 ∧ t.f = s.f ∧ t.sp = s.sp ∧ t.pc = s.pc + 1 ∧ Frame [.a, .h, .l] [] s t)

/-- For every byte n and every state with canonical memory, exec of LD (0xFF00+n),A answers a next state in which the
byte at 0xFF00 + n is A and PC is 2 higher, and exec of LD (0xFF00+C),A one in which the byte at 0xFF00 + C is A and
PC is 1 higher; every other byte of memory, every register, F, SP and all control state are unchanged. The address
is 0xFF00 plus the offset as an unsigned value. -/
def Obligations.HighPageStoresAccumulator : Prop :=
  ∀ (n : Byte) (s : State), Memory.wf s.mem = true →
    (highAddr n).toNat = 0xFF00 + n.toNat ∧
    (∃ t, exec (.ldHighImmFromA n) s = .next t ∧ t.byteAt (highAddr n).toNat = s.reg .a ∧
      t.f = s.f ∧ t.sp = s.sp ∧ t.pc = s.pc + 2 ∧ Frame [] [(highAddr n).toNat] s t) ∧
    (∃ t, exec .ldHighCFromA s = .next t ∧ t.byteAt (highAddr (s.reg .c)).toNat = s.reg .a ∧
      t.f = s.f ∧ t.sp = s.sp ∧ t.pc = s.pc + 1 ∧ Frame [] [(highAddr (s.reg .c)).toNat] s t)

/-- For every byte n and every state, exec of LD A,(0xFF00+n) answers a next state in which A is the byte at 0xFF00 + n
and PC is 2 higher, and exec of LD A,(0xFF00+C) one in which A is the byte at 0xFF00 + C and PC is 1 higher; every
other register, F, SP, all of memory and all control state are unchanged. -/
def Obligations.HighPageLoadsAccumulator : Prop :=
  ∀ (n : Byte) (s : State),
    (∃ t, exec (.ldAFromHighImm n) s = .next t ∧ t.reg .a = s.byteAt (0xFF00 + n.toNat) ∧
      t.f = s.f ∧ t.sp = s.sp ∧ t.pc = s.pc + 2 ∧ Frame [.a] [] s t) ∧
    (∃ t, exec .ldAFromHighC s = .next t ∧ t.reg .a = s.byteAt (0xFF00 + (s.reg .c).toNat) ∧
      t.f = s.f ∧ t.sp = s.sp ∧ t.pc = s.pc + 1 ∧ Frame [.a] [] s t)

/-- For every n and every state with canonical memory: after LD (0xFF00+n),A, in every later state whose byte at 0xFF00
+ n is still the one that store left, LD A,(0xFF00+n) answers a next state in which A is the accumulator that was
stored; and the same for the C-indexed pair with C unchanged. That the page is plain storage is the spec's own
choice D16. -/
def Obligations.HighPageRoundTrip : Prop :=
  ∀ (n : Byte) (s t u : State), Memory.wf s.mem = true →
    (exec (.ldHighImmFromA n) s = .next t → u.byteAt (0xFF00 + n.toNat) = t.byteAt (0xFF00 + n.toNat) →
      ∃ w, exec (.ldAFromHighImm n) u = .next w ∧ w.reg .a = s.reg .a) ∧
    (exec .ldHighCFromA s = .next t → u.reg .c = s.reg .c →
      u.byteAt (0xFF00 + (s.reg .c).toNat) = t.byteAt (0xFF00 + (s.reg .c).toNat) →
      ∃ w, exec .ldAFromHighC u = .next w ∧ w.reg .a = s.reg .a)

/-- For every register r and state, exec of INC r answers a next state in which r is its old value plus one modulo 256,
Z says whether that is 0, N is 0, H says whether the low nibble became smaller (the same as: the old low nibble was
0xF; the spec's own choice D22), C and bits 3:0 of F are unchanged, every other register, SP, all of memory and all
control state are unchanged, and PC is 1 higher. -/
def Obligations.IncRegAddsOneAndSetsFlags : Prop :=
  ∀ (r : Reg) (s : State), ∃ t, exec (incInstr r) s = .next t ∧
    (t.reg r).toNat = ((s.reg r).toNat + 1) % 256 ∧
    t.flagZ = decide ((t.reg r).toNat = 0) ∧ t.flagN = false ∧
    t.flagH = decide ((t.reg r).toNat % 16 < (s.reg r).toNat % 16) ∧
    t.flagH = decide ((s.reg r).toNat % 16 = 15) ∧
    t.flagC = s.flagC ∧ SameLowF s t ∧ t.sp = s.sp ∧ t.pc = s.pc + 1 ∧ Frame [r] [] s t

/-- For every register r and state, exec of DEC r answers a next state in which r is its old value minus one modulo 256,
Z says whether that is 0, N is 1, H says whether the low nibble became larger (the same as: the old low nibble was
0; the spec's own choice D22), C and bits 3:0 of F are unchanged, every other register, SP, all of memory and all
control state are unchanged, and PC is 1 higher. -/
def Obligations.DecRegSubtractsOneAndSetsFlags : Prop :=
  ∀ (r : Reg) (s : State), ∃ t, exec (decInstr r) s = .next t ∧
    (t.reg r).toNat = ((s.reg r).toNat + 255) % 256 ∧
    t.flagZ = decide ((t.reg r).toNat = 0) ∧ t.flagN = true ∧
    t.flagH = decide ((s.reg r).toNat % 16 < (t.reg r).toNat % 16) ∧
    t.flagH = decide ((s.reg r).toNat % 16 = 0) ∧
    t.flagC = s.flagC ∧ SameLowF s t ∧ t.sp = s.sp ∧ t.pc = s.pc + 1 ∧ Frame [r] [] s t

/-- For every register r and state, INC r answers a next state, DEC r from there answers a next state, and in it r holds
its original value, Z is 1 exactly when that value is 0, N is 1, and C and every other register are as at the start. -/
def Obligations.IncThenDecRestores : Prop :=
  ∀ (r : Reg) (s : State), ∃ t u, exec (incInstr r) s = .next t ∧ exec (decInstr r) t = .next u ∧
    u.reg r = s.reg r ∧ u.flagZ = decide (s.reg r = 0) ∧ u.flagN = true ∧ u.flagC = s.flagC ∧ SameRegsExcept [] s u

/-- For every pair rr among BC, DE, HL and every state, exec of INC rr answers a next state in which the pair is its old
value plus one modulo 65536, F (the spec's own choice D7), every register outside the pair, SP, all of memory and
all control state are unchanged, and PC is 1 higher. -/
def Obligations.IncPairAddsOne : Prop :=
  ∀ (p : DataPair) (s : State), ∃ t, exec (incPairInstr p) s = .next t ∧
    (t.pair (pairOf p)).toNat = ((s.pair (pairOf p)).toNat + 1) % 65536 ∧
    t.f = s.f ∧ t.sp = s.sp ∧ t.pc = s.pc + 1 ∧ Frame (regsOf (pairOf p)) [] s t

/-- For every register r and state, exec of XOR r answers a next state in which each bit of A is the exclusive-or of the
old bits of A and r, Z says whether the new A is 0, N, H and C are 0, bits 3:0 of F, every other register, SP, all
of memory and all control state are unchanged, and PC is 1 higher; for r = A the new A is 0 and Z is 1. -/
def Obligations.XorRegSetsAllFlags : Prop :=
  ∀ (r : Reg) (s : State), ∃ t, exec (xorInstr r) s = .next t ∧
    (∀ i, i < 8 → (t.reg .a).getLsbD i = ((s.reg .a).getLsbD i ^^ (s.reg r).getLsbD i)) ∧
    t.flagZ = decide (t.reg .a = 0) ∧ t.flagN = false ∧ t.flagH = false ∧ t.flagC = false ∧
    (r = .a → t.reg .a = 0 ∧ t.flagZ = true) ∧
    SameLowF s t ∧ t.sp = s.sp ∧ t.pc = s.pc + 1 ∧ Frame [.a] [] s t

/-- For every state, exec of RLA answers a next state in which A is twice its old value modulo 256 plus the old C, C is
the old bit 7 of A, Z, N and H are 0 (Z also when A is 0), bits 3:0 of F, every other register, SP, all of memory
and all control state are unchanged, and PC is 1 higher. -/
def Obligations.RlaRotatesThroughCarry : Prop :=
  ∀ s : State, ∃ t, exec .rlaAcc s = .next t ∧
    (t.reg .a).toNat = (s.reg .a).toNat * 2 % 256 + s.flagC.toNat ∧
    t.flagC = (s.reg .a).getLsbD 7 ∧ t.flagZ = false ∧ t.flagN = false ∧ t.flagH = false ∧
    SameLowF s t ∧ t.sp = s.sp ∧ t.pc = s.pc + 1 ∧ Frame [.a] [] s t

/-- For every state, RLA run nine times answers a next state in which A and C are what they were at the start. -/
def Obligations.NineRlaRestore : Prop :=
  ∀ s : State, ∃ t, execTimes .rlaAcc 9 s = .next t ∧ t.reg .a = s.reg .a ∧ t.flagC = s.flagC

/-- For every offset byte e and state, exec of JR e answers a next state in which PC is pc + 2 + e modulo 65536, e read
as a two's-complement value of -128 to 127; every register, F, SP, all of memory and all control state are
unchanged. -/
def Obligations.JrAddsSignedOffset : Prop :=
  ∀ (e : Byte) (s : State), ∃ t, exec (.jr e) s = .next t ∧
    t.pc = BitVec.ofInt 16 ((s.pc.toNat : Int) + 2 + e.toInt) ∧ t.f = s.f ∧ t.sp = s.sp ∧ Frame [] [] s t

/-- For every offset byte e and state: JR NZ,e answers a next state with PC = pc + 2 + e modulo 65536 when Z is 0 and pc
+ 2 when Z is 1, JR Z,e the other way round, JR NC,e and JR C,e the same with the flag C; in each, every register,
F, SP, all of memory and all control state are unchanged. Which flag and polarity each opcode tests is the spec's
own choice D11. -/
def Obligations.JrCondJumpsWhenFlagHolds : Prop :=
  ∀ (e : Byte) (s : State) (cc : Cond) (flag polarity : Bool),
    (cc, flag, polarity) ∈ [(Cond.nz, s.flagZ, false), (.z, s.flagZ, true), (.nc, s.flagC, false), (.c, s.flagC, true)] →
    ∃ t, exec (jrCondInstr cc e) s = .next t ∧
      t.pc = (if flag = polarity then BitVec.ofInt 16 ((s.pc.toNat : Int) + 2 + e.toInt) else s.pc + 2) ∧
      t.f = s.f ∧ t.sp = s.sp ∧ Frame [] [] s t

/-- For every nn and every state with canonical memory and SP at least 2, exec of CALL nn answers a next state in which
the bytes at SP-1 and SP-2 are the high and low byte of pc + 3 modulo 65536, SP is 2 lower, PC is nn, every
register, F, every other byte of memory and all control state unchanged. With SP 0 or 1 the outcome is FAULTED with
record (AddressOutOfRange(-1), pc) (the spec's own choice D8). -/
def Obligations.CallPushesReturnAddress : Prop :=
  ∀ (nn : Word) (s : State),
    (Memory.wf s.mem = true → 2 ≤ s.sp.toNat → ∃ t, exec (.call nn) s = .next t ∧
      t.byteAt (addrOf s.sp - 1).toNat = highByte (s.pc + 3) ∧
      t.byteAt (addrOf s.sp - 2).toNat = lowByte (s.pc + 3) ∧
      t.sp = s.sp - 2 ∧ t.pc = nn ∧ t.f = s.f ∧
      Frame [] [(addrOf s.sp - 1).toNat, (addrOf s.sp - 2).toNat] s t) ∧
    (s.sp.toNat ≤ 1 → FaultsWith (exec (.call nn) s) (.addressOutOfRange (-1)) s.pc)

/-- For every t from 0 to 7 and every state with canonical memory and SP at least 2, exec of RST t answers a next state
in which the bytes at SP-1 and SP-2 are the high and low byte of pc plus the parameter RST_PUSH_DELTA (0 or 1, held
in the state, OPEN in D9) modulo 65536, SP is 2 lower, PC is 8 * t, every register, F, every other byte of memory
and all control state unchanged. With SP 0 or 1 the outcome is FAULTED with record (AddressOutOfRange(-1), pc). The
vectors 8 * t and the faulting addresses are the spec's own choices D10 and D8. -/
def Obligations.RstPushesAndJumpsToVector : Prop :=
  ∀ (k : Index8) (s : State),
    (Memory.wf s.mem = true → 2 ≤ s.sp.toNat → ∃ t, exec (rstInstr k) s = .next t ∧
      t.byteAt (addrOf s.sp - 1).toNat = highByte (s.pc + BitVec.ofNat 16 s.rstPushDelta.toNat) ∧
      t.byteAt (addrOf s.sp - 2).toNat = lowByte (s.pc + BitVec.ofNat 16 s.rstPushDelta.toNat) ∧
      t.sp = s.sp - 2 ∧ t.pc.toNat = 8 * indexNat k ∧ t.f = s.f ∧
      Frame [] [(addrOf s.sp - 1).toNat, (addrOf s.sp - 2).toNat] s t) ∧
    (s.sp.toNat ≤ 1 → FaultsWith (exec (rstInstr k) s) (.addressOutOfRange (-1)) s.pc)

/-- For every extended operation, if the bytes of its row are 0xCB and ext, exec of the prefix row with ext is exec of
that row, in every state. With ext 0x30 to 0x37 the outcome is the same state but for the run state, FAULTED with
record (UnimplementedOpcode(ext), pc). Which bytes have an entry, and what is reported, are the spec's own choices
D3 and D14. -/
def Obligations.PrefixRunsExtendedRow : Prop :=
  ∀ (ext : Byte) (s : State),
    (∀ op : ExtOp, encode (extInstr op) = [0xCB, ext] → exec (.prefixCB ext) s = exec (extInstr op) s) ∧
    (0x30 ≤ ext.toNat → ext.toNat ≤ 0x37 →
      exec (.prefixCB ext) s = .next { s with runState := .faulted ⟨.unimplementedOpcode ext, s.pc⟩ })

/-- For every extended byte ext that is not 0x30 to 0x37 and every state, exec of the prefix row with ext answers a next
state in which PC is 2 higher modulo 65536, SP and all control state (the run state among it) are unchanged, bits
3:0 of F are unchanged, and every byte of memory but the one at HL reads as before. Which bytes have an entry is the
spec's own choice D3. -/
def Obligations.PrefixCompletesWithEntry : Prop :=
  ∀ (ext : Byte) (s : State), ¬ (0x30 ≤ ext.toNat ∧ ext.toNat ≤ 0x37) →
    ∃ t, exec (.prefixCB ext) s = .next t ∧ t.pc = s.pc + 2 ∧ t.sp = s.sp ∧ SameControl s t ∧ SameLowF s t ∧
      SameMemoryExcept [(addrOf (s.pair .hl)).toNat] s t

/-- For every register r and state, exec of RLC r, RL r and SLA r answers a next state in which r is twice its old value
modulo 256 plus the bit shifted in (RLC: the old bit 7, RL: the old C flag, SLA: 0), C is the old bit 7, Z says
whether the result is 0, N and H are 0, bits 3:0 of F, every other register, SP, all of memory and all control state
are unchanged, and PC is 2 higher. Results and flags of the extended table are the spec's own choice D4, from
general knowledge. -/
def Obligations.LeftShiftsOnRegister : Prop :=
  ∀ (r : Reg) (s : State) (op : ShiftOp) (bitIn : Bool),
    (op, bitIn) ∈ [(ShiftOp.rlc, (s.reg r).getLsbD 7), (.rl, s.flagC), (.sla, false)] →
    ∃ t, exec (shiftInstr op (.reg r)) s = .next t ∧
      (t.reg r).toNat = (s.reg r).toNat * 2 % 256 + bitIn.toNat ∧
      t.flagZ = decide ((t.reg r).toNat = 0) ∧ t.flagN = false ∧ t.flagH = false ∧ t.flagC = (s.reg r).getLsbD 7 ∧
      SameLowF s t ∧ t.sp = s.sp ∧ t.pc = s.pc + 2 ∧ Frame [r] [] s t

/-- For every register r and state, exec of RRC r, RR r, SRA r and SRL r answers a next state in which r is half its old
value plus 128 times the bit shifted in (RRC: the old bit 0, RR: the old C flag, SRA: the old bit 7, SRL: 0), C is
the old bit 0, Z says whether the result is 0, N and H are 0, bits 3:0 of F, every other register, SP, all of memory
and all control state are unchanged, and PC is 2 higher. Results and flags of the extended table are the spec's own
choice D4, from general knowledge. -/
def Obligations.RightShiftsOnRegister : Prop :=
  ∀ (r : Reg) (s : State) (op : ShiftOp) (bitIn : Bool),
    (op, bitIn) ∈ [(ShiftOp.rrc, (s.reg r).getLsbD 0), (.rr, s.flagC), (.sra, (s.reg r).getLsbD 7), (.srl, false)] →
    ∃ t, exec (shiftInstr op (.reg r)) s = .next t ∧
      (t.reg r).toNat = (s.reg r).toNat / 2 + 128 * bitIn.toNat ∧
      t.flagZ = decide ((t.reg r).toNat = 0) ∧ t.flagN = false ∧ t.flagH = false ∧ t.flagC = (s.reg r).getLsbD 0 ∧
      SameLowF s t ∧ t.sp = s.sp ∧ t.pc = s.pc + 2 ∧ Frame [r] [] s t

/-- For every state with canonical memory, exec of RLC (HL), RL (HL) and SLA (HL) answers a next state in which the byte
at HL is twice its old value modulo 256 plus the bit shifted in (RLC: its old bit 7, RL: the old C flag, SLA: 0), C
is its old bit 7, Z says whether the result is 0, N and H are 0, bits 3:0 of F, every register, SP, every other byte
of memory and all control state are unchanged, and PC is 2 higher. Results and flags of the extended table are the
spec's own choice D4, from general knowledge. -/
def Obligations.LeftShiftsAtHL : Prop :=
  ∀ (s : State) (op : ShiftOp) (bitIn : Bool), Memory.wf s.mem = true →
    (op, bitIn) ∈ [(ShiftOp.rlc, (s.byteAt (addrOf (s.pair .hl)).toNat).getLsbD 7), (.rl, s.flagC), (.sla, false)] →
    ∃ t, exec (shiftInstr op .atHL) s = .next t ∧
      (t.byteAt (addrOf (s.pair .hl)).toNat).toNat =
        (s.byteAt (addrOf (s.pair .hl)).toNat).toNat * 2 % 256 + bitIn.toNat ∧
      t.flagZ = decide ((t.byteAt (addrOf (s.pair .hl)).toNat).toNat = 0) ∧ t.flagN = false ∧ t.flagH = false ∧
      t.flagC = (s.byteAt (addrOf (s.pair .hl)).toNat).getLsbD 7 ∧
      SameLowF s t ∧ t.sp = s.sp ∧ t.pc = s.pc + 2 ∧ Frame [] [(addrOf (s.pair .hl)).toNat] s t

/-- For every state with canonical memory, exec of RRC (HL), RR (HL), SRA (HL) and SRL (HL) answers a next state in
which the byte at HL is half its old value plus 128 times the bit shifted in (RRC: its old bit 0, RR: the old C
flag, SRA: its old bit 7, SRL: 0), C is its old bit 0, Z says whether the result is 0, N and H are 0, bits 3:0 of F,
every register, SP, every other byte of memory and all control state are unchanged, and PC is 2 higher. Results and
flags of the extended table are the spec's own choice D4, from general knowledge. -/
def Obligations.RightShiftsAtHL : Prop :=
  ∀ (s : State) (op : ShiftOp) (bitIn : Bool), Memory.wf s.mem = true →
    (op, bitIn) ∈ [(ShiftOp.rrc, (s.byteAt (addrOf (s.pair .hl)).toNat).getLsbD 0), (.rr, s.flagC),
      (.sra, (s.byteAt (addrOf (s.pair .hl)).toNat).getLsbD 7), (.srl, false)] →
    ∃ t, exec (shiftInstr op .atHL) s = .next t ∧
      (t.byteAt (addrOf (s.pair .hl)).toNat).toNat =
        (s.byteAt (addrOf (s.pair .hl)).toNat).toNat / 2 + 128 * bitIn.toNat ∧
      t.flagZ = decide ((t.byteAt (addrOf (s.pair .hl)).toNat).toNat = 0) ∧ t.flagN = false ∧ t.flagH = false ∧
      t.flagC = (s.byteAt (addrOf (s.pair .hl)).toNat).getLsbD 0 ∧
      SameLowF s t ∧ t.sp = s.sp ∧ t.pc = s.pc + 2 ∧ Frame [] [(addrOf (s.pair .hl)).toNat] s t

/-- For every bit index b, every operand x (a register or the byte at HL) and every state, exec of BIT b,x answers a
next state in which Z is the complement of bit b of x, N is 0, H is 1, C and bits 3:0 of F, every register, SP, all
of memory and all control state are unchanged, and PC is 2 higher. Results and flags of the extended table are the
spec's own choice D4, from general knowledge. -/
def Obligations.BitTestsOneBit : Prop :=
  ∀ (b : Index8) (x : Operand8) (s : State), ∃ t, exec (bitInstr b x) s = .next t ∧
    t.flagZ = !(operandValue x s).getLsbD (indexNat b) ∧ t.flagN = false ∧ t.flagH = true ∧ t.flagC = s.flagC ∧
    SameLowF s t ∧ t.sp = s.sp ∧ t.pc = s.pc + 2 ∧ Frame [] [] s t

/-- For every bit index b, register r and state, exec of RES b,r answers a next state in which bit b of r is 0, and exec
of SET b,r one in which it is 1; the other seven bits of r, every other register, F, SP, all of memory and all
control state are unchanged, and PC is 2 higher. Results and flags of the extended table are the spec's own choice
D4, from general knowledge. -/
def Obligations.ResAndSetOnRegister : Prop :=
  ∀ (b : Index8) (r : Reg) (s : State) (i : Instr) (v : Bool),
    (i, v) ∈ [(resInstr b (.reg r), false), (setInstr b (.reg r), true)] →
    ∃ t, exec i s = .next t ∧
      (∀ j, j < 8 → (t.reg r).getLsbD j = if j = indexNat b then v else (s.reg r).getLsbD j) ∧
      t.f = s.f ∧ t.sp = s.sp ∧ t.pc = s.pc + 2 ∧ Frame [r] [] s t

/-- For every bit index b and every state with canonical memory, exec of RES b,(HL) answers a next state in which bit b
of the byte at HL is 0, and exec of SET b,(HL) one in which it is 1; the other seven bits of that byte, every other
byte of memory, every register, F, SP and all control state are unchanged, and PC is 2 higher. Results and flags of
the extended table are the spec's own choice D4, from general knowledge. -/
def Obligations.ResAndSetAtHL : Prop :=
  ∀ (b : Index8) (s : State) (i : Instr) (v : Bool), Memory.wf s.mem = true →
    (i, v) ∈ [(resInstr b .atHL, false), (setInstr b .atHL, true)] →
    ∃ t, exec i s = .next t ∧
      (∀ j, j < 8 → (t.byteAt (addrOf (s.pair .hl)).toNat).getLsbD j =
        if j = indexNat b then v else (s.byteAt (addrOf (s.pair .hl)).toNat).getLsbD j) ∧
      t.f = s.f ∧ t.sp = s.sp ∧ t.pc = s.pc + 2 ∧ Frame [] [(addrOf (s.pair .hl)).toNat] s t

/-- For every operand x (a register or the byte at HL) and every state with canonical memory: RLC x and then RRC x both
answer next states and x is then what it was; RL x and then RR x both answer next states and x and the flag C are
then what they were. Results and flags of the extended table are the spec's own choice D4, from general knowledge. -/
def Obligations.OppositeRotatesRestore : Prop :=
  ∀ (x : Operand8) (s : State), Memory.wf s.mem = true →
    (∃ t u, exec (shiftInstr .rlc x) s = .next t ∧ exec (shiftInstr .rrc x) t = .next u ∧
      operandValue x u = operandValue x s) ∧
    (∃ t u, exec (shiftInstr .rl x) s = .next t ∧ exec (shiftInstr .rr x) t = .next u ∧
      operandValue x u = operandValue x s ∧ u.flagC = s.flagC)

/-- For every bit index b, every operand x and every state with canonical memory: SET b,x and then BIT b,x both answer
next states with Z = 0 in the second, and RES b,x and then BIT b,x both answer next states with Z = 1 in the second.
Results and flags of the extended table are the spec's own choice D4, from general knowledge. -/
def Obligations.BitSeesSetAndRes : Prop :=
  ∀ (b : Index8) (x : Operand8) (s : State), Memory.wf s.mem = true →
    (∃ t u, exec (setInstr b x) s = .next t ∧ exec (bitInstr b x) t = .next u ∧ u.flagZ = false) ∧
    (∃ t u, exec (resInstr b x) s = .next t ∧ exec (bitInstr b x) t = .next u ∧ u.flagZ = true)

/-- For every instruction and all states, if exec answers a next state then F is unchanged, or the instruction is INC r,
DEC r, XOR r, RLA, POP AF, an extended rotate or shift, BIT, or the prefix row, whose operation is one of the
extended ones. That the other families leave F is the spec's own choice D7. -/
def Obligations.OnlyFlagInstructionsWriteF : Prop :=
  ∀ (i : Instr) (s t : State), exec i s = .next t →
    t.f = s.f ∨ (∃ r, i = incInstr r ∨ i = decInstr r ∨ i = xorInstr r) ∨ i = .rlaAcc ∨ i = .popAF ∨
      (∃ op x, i = shiftInstr op x) ∨ (∃ b x, i = bitInstr b x) ∨ (∃ ext, i = .prefixCB ext)

/-- For every instruction other than POP AF and all states, if exec answers a next state then bits 3:0 of F are
unchanged: they are plain storage, written by POP AF alone (the spec's own choice D6). -/
def Obligations.OnlyPopAFWritesLowF : Prop :=
  ∀ (i : Instr) (s t : State), exec i s = .next t → i ≠ .popAF → SameLowF s t

/-- For every instruction and all states, if exec answers a next state then the flag C is unchanged, or the instruction
is XOR r, RLA, POP AF, an extended rotate or shift, or the prefix row with the byte of such a rotate or shift. -/
def Obligations.OnlyCarryInstructionsWriteC : Prop :=
  ∀ (i : Instr) (s t : State), exec i s = .next t →
    t.flagC = s.flagC ∨ (∃ r, i = xorInstr r) ∨ i = .rlaAcc ∨ i = .popAF ∨ (∃ op x, i = shiftInstr op x) ∨
      (∃ ext op x, i = .prefixCB ext ∧ encode (shiftInstr op x) = [0xCB, ext])

/-- For every instruction and all states, if exec answers a next state then SP is unchanged, or the instruction is LD
SP,nn, PUSH rr, POP rr, CALL nn or RST t. -/
def Obligations.OnlyStackInstructionsWriteSP : Prop :=
  ∀ (i : Instr) (s t : State), exec i s = .next t →
    t.sp = s.sp ∨ (∃ nn, i = .ldSPImm nn) ∨ (∃ p, i = pushInstr p ∨ i = popInstr p) ∨ (∃ nn, i = .call nn) ∨
      (∃ k, i = rstInstr k)

/-- For every instruction and all states, if exec answers a next state then every byte of memory reads as before, or the
instruction is one of those the access list gives a write: PUSH, LD (nn),SP, LD (HL),n, LD (HL+),A, LD (HL-),A, LD
(0xFF00+n),A, LD (0xFF00+C),A, CALL, RST, an extended rotate, shift, RES or SET on (HL), or the prefix row. -/
def Obligations.OnlyStoresWriteMemory : Prop :=
  ∀ (i : Instr) (s t : State), exec i s = .next t →
    SameMemoryExcept [] s t ∨ (∃ p, i = pushInstr p) ∨ (∃ nn, i = .ldAtImmFromSP nn) ∨ (∃ n, i = .ldAtHLImm n) ∨
      i = .ldAtHLIncFromA ∨ i = .ldAtHLDecFromA ∨ (∃ n, i = .ldHighImmFromA n) ∨ i = .ldHighCFromA ∨
      (∃ nn, i = .call nn) ∨ (∃ k, i = rstInstr k) ∨ (∃ op, i = shiftInstr op .atHL) ∨
      (∃ b, i = resInstr b .atHL ∨ i = setInstr b .atHL) ∨ (∃ ext, i = .prefixCB ext)

/-- For every instruction and all states, if the run state is RUNNING before and exec answers a next state whose run
state is RUNNING: JR e, and JR cc,e with cc true, leave PC at pc + 2 + e modulo 65536; JR cc,e with cc false at pc +
2; CALL nn at nn and RST t at 8 * t, with no length added; every other instruction at pc plus the length of its
encoding modulo 65536 (2 for the prefix and the byte after it). The vectors 8 * t and some of the lengths are the
spec's own choices D10 and D26. -/
def Obligations.PcRuleOfEveryInstruction : Prop :=
  ∀ (i : Instr) (s t : State), exec i s = .next t → s.runState = .running → t.runState = .running →
    (∀ e, i = .jr e → t.pc = BitVec.ofInt 16 ((s.pc.toNat : Int) + 2 + e.toInt)) ∧
    (∀ cc e, i = jrCondInstr cc e → condHolds s cc = true → t.pc = BitVec.ofInt 16 ((s.pc.toNat : Int) + 2 + e.toInt)) ∧
    (∀ cc e, i = jrCondInstr cc e → condHolds s cc = false → t.pc = s.pc + 2) ∧
    (∀ nn, i = .call nn → t.pc = nn) ∧
    (∀ k, i = rstInstr k → t.pc.toNat = 8 * indexNat k) ∧
    ((∀ e, i ≠ .jr e) → (∀ cc e, i ≠ jrCondInstr cc e) → (∀ nn, i ≠ .call nn) → (∀ k, i ≠ rstInstr k) →
      t.pc = s.pc + BitVec.ofNat 16 (encode i).length)

/-- For every instruction and all states s and s' with the same registers, F, PC, SP, memory and parameter: if exec
answers a next state t from s, it answers a next state t' from s', and t and t' again have the same registers, F,
PC, SP, memory and parameter. So nothing a program computes depends on the run state, the run flag, the step-
acknowledged flag or the host's later samples. -/
def Obligations.NoInstructionReadsControlState : Prop :=
  ∀ (i : Instr) (s s' t : State), SameProgramState s s' → exec i s = .next t →
    ∃ t', exec i s' = .next t' ∧ SameProgramState t t'

/-- For every instruction and all states, if exec answers a next state then the run flag, the step-acknowledged flag,
the host's later samples, RST_PUSH_DELTA and the free-value index are unchanged, and the run state is unchanged or
is FAULTED with a record whose PC is the PC before the instruction, PC itself unchanged, and whose kind is
UnimplementedOpcode or AddressOutOfRange, never InvalidRegisterName. -/
def Obligations.NoInstructionWritesHostFlags : Prop :=
  ∀ (i : Instr) (s t : State), exec i s = .next t →
    t.runFlag = s.runFlag ∧ t.stepAck = s.stepAck ∧ t.hostNext = s.hostNext ∧ t.rstPushDelta = s.rstPushDelta ∧
    t.freeIndex = s.freeIndex ∧
    (t.runState = s.runState ∨
      ((∃ k, t.runState = .faulted ⟨k, s.pc⟩ ∧ ∀ name, k ≠ .invalidRegisterName name) ∧ t.pc = s.pc))

/-- In the reset state the seven registers, F, PC and SP are 0, every address of memory reads 0, the run state is
RUNNING with no fault record, the run flag is true and the step-acknowledged flag false. The zeros and the false
step-acknowledged flag are the spec's own choice D12 (PC 0 and the ROM image from address 0 have a ground in GBEMU);
the run flag true and the absent fault record are grounded in GBEMU sections 6 and 7. That the run state is RUNNING
at reset is the model's reading of RUNNING once the host starts the loop (log entry 3, DEDUCED). -/
def Obligations.ResetStateHasGivenValues : Prop :=
  (∀ r, State.reset.reg r = 0) ∧ State.reset.f = 0 ∧ State.reset.pc = 0 ∧ State.reset.sp = 0 ∧
    (∀ x, State.reset.byteAt x = 0) ∧ State.reset.runState = .running ∧ State.reset.runFlag = true ∧
    State.reset.stepAck = false

/-- The invariant of EveryStepKeepsTheInvariant holds at the reset state (whose values are the spec's own choice D12). -/
def Obligations.ResetMeetsTheInvariant : Prop :=
  StateInv State.reset

/-- For every state that meets the invariant, not only those a run reaches, if step answers a next state then that state
meets it. The invariant: memory is in canonical form; and if the run state is FAULTED, the PC in the record is the
PC of the state, and the fault is UnimplementedOpcode of the byte at PC, one of the 135 undefined values, or of a
byte 0x30 to 0x37 that follows a byte 0xCB at PC, or AddressOutOfRange of -1 or 0x10000, never InvalidRegisterName.
What is undefined, which addresses fault and what a record holds rest on the spec's own choices D2, D3, D8, D13,
D14. -/
def Obligations.EveryStepKeepsTheInvariant : Prop :=
  ∀ s t : State, StateInv s → step s = .next t → StateInv t

/-- For every image of at most 65536 bytes and every state with canonical memory: after the loader the byte at each
address below the image length is that byte of the image, every other byte of memory reads as before, memory is
still canonical, and every register, F, PC, SP and all control state are unchanged. -/
def Obligations.RomLoaderFillsMemory : Prop :=
  ∀ (image : List Byte) (s : State), Memory.wf s.mem = true → image.length ≤ 65536 →
    (∀ (x : Nat) (h : x < image.length), (loadRom image s).byteAt x = image[x]) ∧
    (∀ x, image.length ≤ x → (loadRom image s).byteAt x = s.byteAt x) ∧
    Memory.wf (loadRom image s).mem = true ∧
    SameRegsExcept [] s (loadRom image s) ∧ (loadRom image s).f = s.f ∧ (loadRom image s).pc = s.pc ∧
    (loadRom image s).sp = s.sp ∧ SameControl s (loadRom image s)

/-- For every state whose run state is RUNNING and whose run flag is false: step answers the STOPPED state, the saver
gives a snapshot of it, and launching that snapshot with the run flag true gives a RUNNING state, about to fetch,
with the same registers, F, PC, SP, memory and parameter. While the run state is RUNNING the saver gives nothing.
That it gives nothing then, and how a launch fills the state, is the model's choice (log entry 13, DESIGN CHOICE);
that a launch keeps the parameter RST_PUSH_DELTA is log entry 5 (DESIGN CHOICE). -/
def Obligations.StoppedRunResumesFromSnapshot : Prop :=
  ∀ s : State, s.runState = .running →
    saveSnapshot s = none ∧
    (s.runFlag = false → ∃ t snap, step s = .next t ∧ saveSnapshot t = some snap ∧
      SameProgramState s (launch snap true t) ∧ AboutToFetch (launch snap true t))

/-- For every well-formed instruction (each of the 369 rows, with every value of its immediate) and every list of bytes
after it, decode of its encoding followed by those bytes is that instruction with exactly those bytes left. The
opcode values are the spec's own choice D1 (the target opcode map); which pairs of bytes are the prefix row is log
entry 10 (DEDUCED). -/
def Obligations.DecodeInvertsEncode : Prop :=
  ∀ (i : Instr) (rest : List Byte), WellFormed i = true → decode (encode i ++ rest) = .ok (i, rest)

/-- For all bytes: if decode answers an instruction and the bytes left, the instruction is well formed and its encoding
followed by the bytes left is the bytes given. With DecodeInvertsEncode: no two byte sequences give one instruction
and none is read in two ways. The opcode values are the spec's own choice D1; which pairs of bytes are the prefix
row is log entry 10 (DEDUCED). -/
def Obligations.EncodeInvertsDecode : Prop :=
  ∀ (bytes : List Byte) (i : Instr) (rest : List Byte), decode bytes = .ok (i, rest) →
    WellFormed i = true ∧ encode i ++ rest = bytes

/-- For every byte op and every list of bytes after it: decode refuses with UnimplementedOpcode(op) exactly when op is
one of the 135 values listed as undefined; and for every byte ext, decode of 0xCB, ext gives the prefix row itself,
whose meaning raises the fault, exactly when ext is 0x30 to 0x37. Which values are undefined is the spec's own
choice D2, D3. The second clause is the model's reading of 0xCB and the byte after it as one instruction, the prefix
row itself where there is no entry (log entry 10, DEDUCED). -/
def Obligations.UndefinedOpcodesAreTheListed : Prop :=
  (∀ (op : Byte) (rest : List Byte), decode (op :: rest) = .error (.unimplementedOpcode op) ↔ undefinedPrimary op = true) ∧
    (∀ (ext : Byte) (rest : List Byte),
      decode (0xCB :: ext :: rest) = .ok (.prefixCB ext, rest) ↔ 0x30 ≤ ext.toNat ∧ ext.toNat ≤ 0x37)

/-- The bytes 11010101 are PUSH DE, 11110001 POP AF, 01000111 LD B,A, 00001000 00000000 11000001 LD (0xC100),SP,
00111110 00000101 LD A,0x05, 00110110 01000010 LD (HL),0x42, 00010001 00110100 00010010 LD DE,0x1234, 01111110 LD
A,(HL), 00111010 LD A,(HL-), 11100010 LD (0xFF00+C),A, 00001101 DEC C, 00100011 INC HL, 10101101 XOR L, 00010111
RLA, 00101000 11111110 JR Z,-2, 11001101 00110100 00010010 CALL 0x1234, 11101111 RST 0x28, 11001011 00101101 SRA L,
11001011 01111100 BIT 7,H, 11001011 10111110 RES 7,(HL), 11001011 11011110 SET 3,(HL). The opcode values are the
spec's own choice D1. -/
def Obligations.SpecWordsDecode : Prop :=
  decode [0b11010101] = .ok (.pushDE, []) ∧ decode [0b11110001] = .ok (.popAF, []) ∧
    decode [0b01000111] = .ok (.ldBFromA, []) ∧
    decode [0b00001000, 0b00000000, 0b11000001] = .ok (.ldAtImmFromSP 0xC100, []) ∧
    decode [0b00111110, 0b00000101] = .ok (.ldAImm 5, []) ∧ decode [0b00110110, 0b01000010] = .ok (.ldAtHLImm 0x42, []) ∧
    decode [0b00010001, 0b00110100, 0b00010010] = .ok (.ldDEImm 0x1234, []) ∧
    decode [0b01111110] = .ok (.ldAFromAtHL, []) ∧ decode [0b00111010] = .ok (.ldAFromAtHLDec, []) ∧
    decode [0b11100010] = .ok (.ldHighCFromA, []) ∧ decode [0b00001101] = .ok (.decC, []) ∧
    decode [0b00100011] = .ok (.incHL, []) ∧ decode [0b10101101] = .ok (.xorL, []) ∧
    decode [0b00010111] = .ok (.rlaAcc, []) ∧ decode [0b00101000, 0b11111110] = .ok (.jrZ 0xFE, []) ∧
    decode [0b11001101, 0b00110100, 0b00010010] = .ok (.call 0x1234, []) ∧
    decode [0b11101111] = .ok (.rst28, []) ∧ decode [0b11001011, 0b00101101] = .ok (.sraL, []) ∧
    decode [0b11001011, 0b01111100] = .ok (.bit7H, []) ∧ decode [0b11001011, 0b10111110] = .ok (.res7AtHL, []) ∧
    decode [0b11001011, 0b11011110] = .ok (.set3AtHL, [])

/-- For every state with run state RUNNING and run flag true whose bytes at PC decode to an instruction i: i is well
formed, and step is exec of i on the state after the host's turn. The host's turn (log entries 4 and 6) leaves the
registers, F, PC, SP, memory, the parameter and the run state; it takes the next host sample, and may clear the
step-acknowledged flag. -/
def Obligations.StepRunsDecodedInstruction : Prop :=
  ∀ (s : State) (i : Instr) (rest : List Byte), AboutToFetch s → decode (fetchBytes s) = .ok (i, rest) →
    WellFormed i = true ∧ step s = exec i (hostTurn s) ∧
    SameProgramState s (hostTurn s) ∧ (hostTurn s).runState = s.runState

/-- For every state: with a sample x listed next, the host's turn sets the run flag to the one of x and lists the
samples after it, and with none listed the run flag keeps its value (the model's reading of RUN_FLAG(k), log entry
4); the step-acknowledged flag is true afterwards only if it was true before or x raises it, and if x raises it it
is true. When the core clears it is a free value (log entry 6); that it clears before the host raises, so that a
raise survives its turn, is the model's choice (log entry 17, DESIGN CHOICE). -/
def Obligations.HostTurnTakesTheNextSample : Prop :=
  ∀ s : State,
    (s.hostNext = [] → (hostTurn s).runFlag = s.runFlag ∧ (hostTurn s).hostNext = [] ∧
      ((hostTurn s).stepAck = true → s.stepAck = true)) ∧
    (∀ x xs, s.hostNext = x :: xs → (hostTurn s).runFlag = x.runFlag ∧ (hostTurn s).hostNext = xs ∧
      ((hostTurn s).stepAck = true → s.stepAck = true ∨ x.raiseStepAck = true) ∧
      (x.raiseStepAck = true → (hostTurn s).stepAck = true))

/-- For every state about to fetch: if the byte at PC is one of the 135 undefined primary values (at any PC, 0xFFFF
too), step answers the FAULTED state with record (UnimplementedOpcode(op), pc); if it is 0xCB, PC is below 0xFFFF
and the byte after it is 0x30 to 0x37, step answers the FAULTED state with record (UnimplementedOpcode(ext), pc), pc
being the address of the 0xCB byte (the spec's own choice D14). In both, every register, F, PC, SP and memory are
exactly as before. -/
def Obligations.UndefinedOpcodeFaultsCleanly : Prop :=
  ∀ s : State, AboutToFetch s →
    (undefinedPrimary (s.byteAt s.pc.toNat) = true →
      ∃ t, step s = .next t ∧ t.runState = .faulted ⟨.unimplementedOpcode (s.byteAt s.pc.toNat), s.pc⟩ ∧
        SameProgramState s t) ∧
    (s.byteAt s.pc.toNat = 0xCB → s.pc.toNat < 0xFFFF →
      0x30 ≤ (s.byteAt (s.pc.toNat + 1)).toNat → (s.byteAt (s.pc.toNat + 1)).toNat ≤ 0x37 →
      ∃ t, step s = .next t ∧ t.runState = .faulted ⟨.unimplementedOpcode (s.byteAt (s.pc.toNat + 1)), s.pc⟩ ∧
        SameProgramState s t)

/-- For every state about to fetch: if PC is 0xFFFF and the opcode there is of length 2 or 3, or PC is 0xFFFE and the
opcode there is of length 3, step answers the FAULTED state with record (AddressOutOfRange(0x10000), pc). That
addresses do not wrap is the spec's own choice D8. -/
def Obligations.OperandOffTheEndFaults : Prop :=
  ∀ s : State, AboutToFetch s →
    (s.pc.toNat = 0xFFFF → 2 ≤ primaryLength (s.byteAt 0xFFFF) →
      FaultsWith (step s) (.addressOutOfRange 0x10000) s.pc) ∧
    (s.pc.toNat = 0xFFFE → primaryLength (s.byteAt 0xFFFE) = 3 →
      FaultsWith (step s) (.addressOutOfRange 0x10000) s.pc)

/-- For every state: RUNNING with the run flag false, step answers the same state with run state STOPPED; STOPPED or
FAULTED, step answers the state unchanged; about to fetch, step answers a next state, and its run state is RUNNING
or FAULTED, never STOPPED. So a run ends in exactly two ways, and step never answers a fault or a refusal of the
host's interface. That a step from STOPPED or FAULTED answers the state unchanged and that a false sample changes
only the run state is the model's reading (log entry 16, DEDUCED), and that the host takes no turn there its choice
(log entry 4, DESIGN CHOICE). -/
def Obligations.RunStateRules : Prop :=
  ∀ s : State,
    (s.runState = .running → s.runFlag = false → step s = .next { s with runState := .stopped }) ∧
    (s.runState ≠ .running → step s = .next s) ∧
    (AboutToFetch s → ∃ t, step s = .next t ∧ t.runState ≠ .stopped)

/-- For every byte n and every state with canonical memory, RUNNING, in which HL is pc + 2 modulo 65536 (the address
after LD (HL),n): after exec of LD (HL),n the bytes a fetch sees begin with n, and if n is one of the 135 undefined
values and the run flag is true, the next step faults with UnimplementedOpcode(n) at that address. -/
def Obligations.FetchSeesEarlierStores : Prop :=
  ∀ (n : Byte) (s : State), Memory.wf s.mem = true → s.runState = .running → s.pair .hl = s.pc + 2 →
    ∃ t, exec (.ldAtHLImm n) s = .next t ∧ (fetchBytes t).head? = some n ∧
      (s.runFlag = true → undefinedPrimary n = true →
        FaultsWith (step t) (.unimplementedOpcode n) (s.pc + 2))

/-- For every state with canonical memory, RUNNING, and every byte v that an instruction stores at an address a (the
access list of section 4: PUSH, CALL and RST from SP at least 2, LD (nn),SP with nn below 0xFFFF, LD (HL),n, LD
(HL+),A, LD (HL-),A, the two stores to 0xFF00 plus an offset, the extended rotates, shifts, RES and SET on (HL),
also through the prefix row): exec answers a next state t, RUNNING, with the run flag as before and v at a; and in
t, as in every state u whose byte at a is still the one t has, a fetch within three bytes before a sees v at its
place, and a step of u that is about to fetch with PC = a faults with UnimplementedOpcode(v) if v is one of the 135
undefined values. The results of the extended table and the addresses that fault instead are the spec's own choices
D4 and D8. -/
def Obligations.EveryStoreIsSeenByLaterFetches : Prop :=
  ∀ (i : Instr) (a : Nat) (v : Byte) (s : State), Memory.wf s.mem = true → s.runState = .running → StoresByte s i a v →
    ∃ t, exec i s = .next t ∧ t.runState = .running ∧ t.runFlag = s.runFlag ∧ t.byteAt a = v ∧
      ∀ u : State, u.byteAt a = t.byteAt a →
        (∀ k, k < 3 → u.pc.toNat + k = a → (fetchBytes u)[k]? = some v) ∧
        (AboutToFetch u → u.pc.toNat = a → undefinedPrimary v = true →
          FaultsWith (step u) (.unimplementedOpcode v) u.pc)
end

