-- ==== Sys2Proof/Laws/Bytes.lean ====
section
/-! SUPPORT. Bytes, words and single bits: the halves of a word, a bit set in a byte. -/

namespace Sys2Proof

@[simp] theorem wordOf_high_low (v : Word) : wordOf (highByte v) (lowByte v) = v := by
  apply BitVec.eq_of_getLsbD_eq
  intro i hi
  simp only [wordOf, highByte, lowByte, BitVec.getLsbD_or, BitVec.getLsbD_shiftLeft, BitVec.getLsbD_setWidth,
    BitVec.getLsbD_ushiftRight]
  by_cases h : i < 8
  · simp [h, hi]
  · have h' : i - 8 < 8 := by omega
    have h'' : 8 + (i - 8) = i := by omega
    simp [h, hi, h', h'']
    omega

theorem toNat_wordOf (hi lo : Byte) : (wordOf hi lo).toNat = hi.toNat * 256 + lo.toNat := by
  have h1 := hi.isLt
  have h2 := lo.isLt
  have hcat : wordOf hi lo = hi ++ lo := by
    apply BitVec.eq_of_getLsbD_eq
    intro i hi'
    simp only [wordOf, BitVec.getLsbD_or, BitVec.getLsbD_shiftLeft, BitVec.getLsbD_setWidth, BitVec.getLsbD_append]
    by_cases h : i < 8
    · simp [h, hi']
    · have h' : i - 8 < 16 := by omega
      have hlo : lo.getLsbD i = false := BitVec.getLsbD_of_ge _ _ (by omega)
      simp [h, hi', h', hlo]
  rw [hcat, BitVec.toNat_append, ← Nat.shiftLeft_add_eq_or_of_lt h2, Nat.shiftLeft_eq]

theorem toNat_highByte (v : Word) : (highByte v).toNat = v.toNat / 256 := by
  have h := v.isLt
  simp only [highByte, BitVec.toNat_setWidth, BitVec.toNat_ushiftRight, Nat.shiftRight_eq_div_pow]
  omega

theorem toNat_lowByte (v : Word) : (lowByte v).toNat = v.toNat % 256 := by
  simp [lowByte]

@[simp] theorem highByte_wordOf (hi lo : Byte) : highByte (wordOf hi lo) = hi := by
  apply BitVec.eq_of_toNat_eq
  have h1 := lo.isLt
  rw [toNat_highByte, toNat_wordOf]
  omega

@[simp] theorem lowByte_wordOf (hi lo : Byte) : lowByte (wordOf hi lo) = lo := by
  apply BitVec.eq_of_toNat_eq
  have h1 := lo.isLt
  rw [toNat_lowByte, toNat_wordOf]
  omega

namespace Machine

/-- Each bit of a byte with one bit set. -/
theorem getLsbD_putBit (v : Byte) {i : Nat} (x : Bool) (hi : i < 8) (j : Nat) :
    (putBit v i x).getLsbD j = if j = i then x else v.getLsbD j := by
  by_cases hj : j < 8
  · have key : ∀ (v : Byte) (x : Bool) (i j : Fin 8),
        (putBit v i.val x).getLsbD j.val = if j.val = i.val then x else v.getLsbD j.val := by
      intro v x i j
      cases x
      · simp only [putBit, BitVec.getLsbD_and, BitVec.getLsbD_not, BitVec.getLsbD_shiftLeft, Bool.false_eq_true, if_false]
        revert i j
        have e : ∀ k : Nat, (1#8).getLsbD k = decide (k = 0) := by
          intro k
          simp [BitVec.getLsbD_one]
        intro i j
        rw [e]
        by_cases h : j.val = i.val
        · simp [h]
        · simp only [h, if_false]
          by_cases h2 : j.val < i.val
          · simp [h2]
          · have : ¬ (j.val - i.val = 0) := by omega
            simp [this]
      · simp only [putBit, BitVec.getLsbD_or, BitVec.getLsbD_shiftLeft, if_true]
        have e : ∀ k : Nat, (1#8).getLsbD k = decide (k = 0) := by
          intro k
          simp [BitVec.getLsbD_one]
        rw [e]
        by_cases h : j.val = i.val
        · simp [h]
        · simp only [h, if_false]
          by_cases h2 : j.val < i.val
          · simp [h2]
          · have : ¬ (j.val - i.val = 0) := by omega
            simp [this]
    exact key v x ⟨i, hi⟩ ⟨j, hj⟩
  · have h1 : (putBit v i x).getLsbD j = false := BitVec.getLsbD_of_ge _ _ (by omega)
    have h2 : v.getLsbD j = false := BitVec.getLsbD_of_ge _ _ (by omega)
    have h3 : j ≠ i := by omega
    rw [h1, h2, if_neg h3]

theorem toNat_indexNat_lt (b : Index8) : indexNat b < 8 := by
  cases b <;> decide

end Machine

end Sys2Proof
end

