-- ==== Sys2Proof/Laws/Memory.lean ====
section
/-! SUPPORT. The laws of memory cells: a read after a write, and the canonical form. -/

namespace Sys2Proof.Machine

theorem wfFrom_mono {lo lo' : Nat} {m : Memory} (hle : lo' ≤ lo) (h : Memory.wfFrom lo m = true) :
    Memory.wfFrom lo' m = true := by
  cases m with
  | nil => rfl
  | cons x m =>
    obtain ⟨a, v⟩ := x
    simp only [Memory.wfFrom, Bool.and_eq_true, decide_eq_true_eq] at h ⊢
    exact ⟨⟨⟨by omega, h.1.1.2⟩, h.1.2⟩, h.2⟩

/-- Below its lower bound a canonical memory lists nothing. -/
theorem readCell_below {lo : Nat} {m : Memory} (h : Memory.wfFrom lo m = true) {a : Nat} (ha : a < lo) :
    readCell m a = unlistedByte := by
  induction m generalizing lo with
  | nil => rfl
  | cons x m ih =>
    obtain ⟨b, v⟩ := x
    simp only [Memory.wfFrom, Bool.and_eq_true, decide_eq_true_eq] at h
    have hne : a ≠ b := by omega
    simp only [readCell, hne, if_false]
    exact ih h.2 (by omega)

theorem readCell_writeCell_same_from {lo : Nat} {m : Memory} (h : Memory.wfFrom lo m = true) (a : Nat) (v : Byte) :
    readCell (writeCell m a v) a = v := by
  induction m generalizing lo with
  | nil =>
    by_cases hv : v = unlistedByte
    · simp [writeCell, hv, readCell]
    · simp [writeCell, hv, readCell]
  | cons x m ih =>
    obtain ⟨b, w⟩ := x
    simp only [Memory.wfFrom, Bool.and_eq_true, decide_eq_true_eq] at h
    by_cases h1 : a < b
    · by_cases hv : v = unlistedByte
      · have hne : a ≠ b := by omega
        simp only [writeCell, h1, hv, if_true, readCell, hne, if_false]
        exact readCell_below h.2 (by omega)
      · simp [writeCell, h1, hv, readCell]
    · by_cases h2 : a = b
      · by_cases hv : v = unlistedByte
        · simp only [writeCell, h2, hv, if_true]
          simp only [Nat.lt_irrefl, if_false]
          exact readCell_below h.2 (by omega)
        · simp [writeCell, h2, hv, readCell]
      · simp only [writeCell, h1, h2, if_false, readCell]
        exact ih h.2

/-- A read after a write to the same address gives the value written. -/
theorem readCell_writeCell_same {m : Memory} (h : Memory.wf m = true) (a : Nat) (v : Byte) :
    readCell (writeCell m a v) a = v :=
  readCell_writeCell_same_from h a v

/-- A write leaves every other address alone. -/
theorem readCell_writeCell_other (m : Memory) {a x : Nat} (v : Byte) (hx : x ≠ a) :
    readCell (writeCell m a v) x = readCell m x := by
  induction m with
  | nil =>
    by_cases hv : v = unlistedByte
    · simp [writeCell, hv]
    · simp [writeCell, hv, readCell, hx]
  | cons y m ih =>
    obtain ⟨b, w⟩ := y
    by_cases h1 : a < b
    · by_cases hv : v = unlistedByte
      · simp [writeCell, h1, hv]
      · simp [writeCell, h1, hv, readCell, hx]
    · by_cases h2 : a = b
      · subst h2
        by_cases hv : v = unlistedByte
        · simp [writeCell, hv, readCell, hx]
        · simp [writeCell, hv, readCell, hx]
      · simp only [writeCell, h1, h2, if_false, readCell]
        rw [ih]

theorem wfFrom_writeCell {lo : Nat} {m : Memory} (h : Memory.wfFrom lo m = true) {a : Nat} (hlo : lo ≤ a) (ha : a < 65536)
    (v : Byte) : Memory.wfFrom lo (writeCell m a v) = true := by
  induction m generalizing lo with
  | nil =>
    by_cases hv : v = unlistedByte
    · simp [writeCell, hv, Memory.wfFrom]
    · simp [writeCell, hv, Memory.wfFrom, hlo, ha]
  | cons x m ih =>
    obtain ⟨b, w⟩ := x
    have h0 := h
    simp only [Memory.wfFrom, Bool.and_eq_true, decide_eq_true_eq] at h
    by_cases h1 : a < b
    · by_cases hv : v = unlistedByte
      · simp only [writeCell, h1, hv, if_true]
        exact h0
      · simp only [writeCell, h1, hv, if_true, if_false, Memory.wfFrom, Bool.and_eq_true, decide_eq_true_eq]
        exact ⟨⟨⟨hlo, ha⟩, hv⟩, ⟨⟨⟨by omega, h.1.1.2⟩, h.1.2⟩, h.2⟩⟩
    · by_cases h2 : a = b
      · subst h2
        by_cases hv : v = unlistedByte
        · simp only [writeCell, hv, if_true, Nat.lt_irrefl, if_false]
          exact wfFrom_mono (by omega) h.2
        · simp only [writeCell, hv, if_true, Nat.lt_irrefl, if_false, Memory.wfFrom, Bool.and_eq_true, decide_eq_true_eq]
          exact ⟨⟨⟨h.1.1.1, ha⟩, hv⟩, h.2⟩
      · simp only [writeCell, h1, h2, if_false, Memory.wfFrom, Bool.and_eq_true, decide_eq_true_eq]
        exact ⟨h.1, ih h.2 (by omega)⟩

/-- A write inside the address space keeps the canonical form. -/
theorem wf_writeCell {m : Memory} (h : Memory.wf m = true) {a : Nat} (ha : a < 65536) (v : Byte) :
    Memory.wf (writeCell m a v) = true :=
  wfFrom_writeCell h (Nat.zero_le a) ha v

/-- The memory of the reset state is in canonical form. -/
theorem wf_reset : Memory.wf State.reset.mem = true := rfl

/-- A stored byte reads back. -/
theorem byteAt_store_same {s : State} (h : Memory.wf s.mem = true) (a : Nat) (v : Byte) : (s.store a v).byteAt a = v :=
  readCell_writeCell_same h a v

/-- A store leaves every other byte. -/
theorem byteAt_store_other (s : State) {a x : Nat} (v : Byte) (hx : x ≠ a) : (s.store a v).byteAt x = s.byteAt x :=
  readCell_writeCell_other s.mem v hx

/-- A store inside the address space keeps the canonical form. -/
theorem wf_store {s : State} (h : Memory.wf s.mem = true) {a : Nat} (ha : a < 65536) (v : Byte) :
    Memory.wf (s.store a v).mem = true :=
  wf_writeCell h ha v

end Sys2Proof.Machine
end

