-- ==== Sys2Proof/Laws/State.lean ====
section
/-! SUPPORT. What each update of the state leaves in each field, one lemma per field per update. -/

namespace Sys2Proof.Machine

@[simp] theorem State.b_setPc (s : State) (v : Word) : (s.setPc v).b = s.b := rfl
@[simp] theorem State.c_setPc (s : State) (v : Word) : (s.setPc v).c = s.c := rfl
@[simp] theorem State.d_setPc (s : State) (v : Word) : (s.setPc v).d = s.d := rfl
@[simp] theorem State.e_setPc (s : State) (v : Word) : (s.setPc v).e = s.e := rfl
@[simp] theorem State.h_setPc (s : State) (v : Word) : (s.setPc v).h = s.h := rfl
@[simp] theorem State.l_setPc (s : State) (v : Word) : (s.setPc v).l = s.l := rfl
@[simp] theorem State.a_setPc (s : State) (v : Word) : (s.setPc v).a = s.a := rfl
@[simp] theorem State.f_setPc (s : State) (v : Word) : (s.setPc v).f = s.f := rfl
@[simp] theorem State.sp_setPc (s : State) (v : Word) : (s.setPc v).sp = s.sp := rfl
@[simp] theorem State.mem_setPc (s : State) (v : Word) : (s.setPc v).mem = s.mem := rfl
@[simp] theorem State.runState_setPc (s : State) (v : Word) : (s.setPc v).runState = s.runState := rfl
@[simp] theorem State.runFlag_setPc (s : State) (v : Word) : (s.setPc v).runFlag = s.runFlag := rfl
@[simp] theorem State.stepAck_setPc (s : State) (v : Word) : (s.setPc v).stepAck = s.stepAck := rfl
@[simp] theorem State.hostNext_setPc (s : State) (v : Word) : (s.setPc v).hostNext = s.hostNext := rfl
@[simp] theorem State.rstPushDelta_setPc (s : State) (v : Word) : (s.setPc v).rstPushDelta = s.rstPushDelta := rfl
@[simp] theorem State.freeIndex_setPc (s : State) (v : Word) : (s.setPc v).freeIndex = s.freeIndex := rfl
@[simp] theorem State.reg_setPc (s : State) (v : Word) (r : Reg) : (s.setPc v).reg r = s.reg r := by cases r <;> rfl
@[simp] theorem State.pair_setPc (s : State) (v : Word) (p : Pair) : (s.setPc v).pair p = s.pair p := by cases p <;> rfl
@[simp] theorem State.flagZ_setPc (s : State) (v : Word) : (s.setPc v).flagZ = s.flagZ := rfl
@[simp] theorem State.flagN_setPc (s : State) (v : Word) : (s.setPc v).flagN = s.flagN := rfl
@[simp] theorem State.flagH_setPc (s : State) (v : Word) : (s.setPc v).flagH = s.flagH := rfl
@[simp] theorem State.flagC_setPc (s : State) (v : Word) : (s.setPc v).flagC = s.flagC := rfl
@[simp] theorem State.byteAt_setPc (s : State) (v : Word) (y : Nat) : (s.setPc v).byteAt y = s.byteAt y := rfl

@[simp] theorem State.b_setSp (s : State) (v : Word) : (s.setSp v).b = s.b := rfl
@[simp] theorem State.c_setSp (s : State) (v : Word) : (s.setSp v).c = s.c := rfl
@[simp] theorem State.d_setSp (s : State) (v : Word) : (s.setSp v).d = s.d := rfl
@[simp] theorem State.e_setSp (s : State) (v : Word) : (s.setSp v).e = s.e := rfl
@[simp] theorem State.h_setSp (s : State) (v : Word) : (s.setSp v).h = s.h := rfl
@[simp] theorem State.l_setSp (s : State) (v : Word) : (s.setSp v).l = s.l := rfl
@[simp] theorem State.a_setSp (s : State) (v : Word) : (s.setSp v).a = s.a := rfl
@[simp] theorem State.f_setSp (s : State) (v : Word) : (s.setSp v).f = s.f := rfl
@[simp] theorem State.pc_setSp (s : State) (v : Word) : (s.setSp v).pc = s.pc := rfl
@[simp] theorem State.mem_setSp (s : State) (v : Word) : (s.setSp v).mem = s.mem := rfl
@[simp] theorem State.runState_setSp (s : State) (v : Word) : (s.setSp v).runState = s.runState := rfl
@[simp] theorem State.runFlag_setSp (s : State) (v : Word) : (s.setSp v).runFlag = s.runFlag := rfl
@[simp] theorem State.stepAck_setSp (s : State) (v : Word) : (s.setSp v).stepAck = s.stepAck := rfl
@[simp] theorem State.hostNext_setSp (s : State) (v : Word) : (s.setSp v).hostNext = s.hostNext := rfl
@[simp] theorem State.rstPushDelta_setSp (s : State) (v : Word) : (s.setSp v).rstPushDelta = s.rstPushDelta := rfl
@[simp] theorem State.freeIndex_setSp (s : State) (v : Word) : (s.setSp v).freeIndex = s.freeIndex := rfl
@[simp] theorem State.reg_setSp (s : State) (v : Word) (r : Reg) : (s.setSp v).reg r = s.reg r := by cases r <;> rfl
@[simp] theorem State.pair_setSp (s : State) (v : Word) (p : Pair) : (s.setSp v).pair p = s.pair p := by cases p <;> rfl
@[simp] theorem State.flagZ_setSp (s : State) (v : Word) : (s.setSp v).flagZ = s.flagZ := rfl
@[simp] theorem State.flagN_setSp (s : State) (v : Word) : (s.setSp v).flagN = s.flagN := rfl
@[simp] theorem State.flagH_setSp (s : State) (v : Word) : (s.setSp v).flagH = s.flagH := rfl
@[simp] theorem State.flagC_setSp (s : State) (v : Word) : (s.setSp v).flagC = s.flagC := rfl
@[simp] theorem State.byteAt_setSp (s : State) (v : Word) (y : Nat) : (s.setSp v).byteAt y = s.byteAt y := rfl

@[simp] theorem State.b_advance (s : State) (n : Word) : (s.advance n).b = s.b := rfl
@[simp] theorem State.c_advance (s : State) (n : Word) : (s.advance n).c = s.c := rfl
@[simp] theorem State.d_advance (s : State) (n : Word) : (s.advance n).d = s.d := rfl
@[simp] theorem State.e_advance (s : State) (n : Word) : (s.advance n).e = s.e := rfl
@[simp] theorem State.h_advance (s : State) (n : Word) : (s.advance n).h = s.h := rfl
@[simp] theorem State.l_advance (s : State) (n : Word) : (s.advance n).l = s.l := rfl
@[simp] theorem State.a_advance (s : State) (n : Word) : (s.advance n).a = s.a := rfl
@[simp] theorem State.f_advance (s : State) (n : Word) : (s.advance n).f = s.f := rfl
@[simp] theorem State.sp_advance (s : State) (n : Word) : (s.advance n).sp = s.sp := rfl
@[simp] theorem State.mem_advance (s : State) (n : Word) : (s.advance n).mem = s.mem := rfl
@[simp] theorem State.runState_advance (s : State) (n : Word) : (s.advance n).runState = s.runState := rfl
@[simp] theorem State.runFlag_advance (s : State) (n : Word) : (s.advance n).runFlag = s.runFlag := rfl
@[simp] theorem State.stepAck_advance (s : State) (n : Word) : (s.advance n).stepAck = s.stepAck := rfl
@[simp] theorem State.hostNext_advance (s : State) (n : Word) : (s.advance n).hostNext = s.hostNext := rfl
@[simp] theorem State.rstPushDelta_advance (s : State) (n : Word) : (s.advance n).rstPushDelta = s.rstPushDelta := rfl
@[simp] theorem State.freeIndex_advance (s : State) (n : Word) : (s.advance n).freeIndex = s.freeIndex := rfl
@[simp] theorem State.reg_advance (s : State) (n : Word) (r : Reg) : (s.advance n).reg r = s.reg r := by cases r <;> rfl
@[simp] theorem State.pair_advance (s : State) (n : Word) (p : Pair) : (s.advance n).pair p = s.pair p := by cases p <;> rfl
@[simp] theorem State.flagZ_advance (s : State) (n : Word) : (s.advance n).flagZ = s.flagZ := rfl
@[simp] theorem State.flagN_advance (s : State) (n : Word) : (s.advance n).flagN = s.flagN := rfl
@[simp] theorem State.flagH_advance (s : State) (n : Word) : (s.advance n).flagH = s.flagH := rfl
@[simp] theorem State.flagC_advance (s : State) (n : Word) : (s.advance n).flagC = s.flagC := rfl
@[simp] theorem State.byteAt_advance (s : State) (n : Word) (y : Nat) : (s.advance n).byteAt y = s.byteAt y := rfl

@[simp] theorem State.b_store (s : State) (x : Nat) (v : Byte) : (s.store x v).b = s.b := rfl
@[simp] theorem State.c_store (s : State) (x : Nat) (v : Byte) : (s.store x v).c = s.c := rfl
@[simp] theorem State.d_store (s : State) (x : Nat) (v : Byte) : (s.store x v).d = s.d := rfl
@[simp] theorem State.e_store (s : State) (x : Nat) (v : Byte) : (s.store x v).e = s.e := rfl
@[simp] theorem State.h_store (s : State) (x : Nat) (v : Byte) : (s.store x v).h = s.h := rfl
@[simp] theorem State.l_store (s : State) (x : Nat) (v : Byte) : (s.store x v).l = s.l := rfl
@[simp] theorem State.a_store (s : State) (x : Nat) (v : Byte) : (s.store x v).a = s.a := rfl
@[simp] theorem State.f_store (s : State) (x : Nat) (v : Byte) : (s.store x v).f = s.f := rfl
@[simp] theorem State.pc_store (s : State) (x : Nat) (v : Byte) : (s.store x v).pc = s.pc := rfl
@[simp] theorem State.sp_store (s : State) (x : Nat) (v : Byte) : (s.store x v).sp = s.sp := rfl
@[simp] theorem State.runState_store (s : State) (x : Nat) (v : Byte) : (s.store x v).runState = s.runState := rfl
@[simp] theorem State.runFlag_store (s : State) (x : Nat) (v : Byte) : (s.store x v).runFlag = s.runFlag := rfl
@[simp] theorem State.stepAck_store (s : State) (x : Nat) (v : Byte) : (s.store x v).stepAck = s.stepAck := rfl
@[simp] theorem State.hostNext_store (s : State) (x : Nat) (v : Byte) : (s.store x v).hostNext = s.hostNext := rfl
@[simp] theorem State.rstPushDelta_store (s : State) (x : Nat) (v : Byte) : (s.store x v).rstPushDelta = s.rstPushDelta := rfl
@[simp] theorem State.freeIndex_store (s : State) (x : Nat) (v : Byte) : (s.store x v).freeIndex = s.freeIndex := rfl
@[simp] theorem State.reg_store (s : State) (x : Nat) (v : Byte) (r : Reg) : (s.store x v).reg r = s.reg r := by cases r <;> rfl
@[simp] theorem State.pair_store (s : State) (x : Nat) (v : Byte) (p : Pair) : (s.store x v).pair p = s.pair p := by cases p <;> rfl
@[simp] theorem State.flagZ_store (s : State) (x : Nat) (v : Byte) : (s.store x v).flagZ = s.flagZ := rfl
@[simp] theorem State.flagN_store (s : State) (x : Nat) (v : Byte) : (s.store x v).flagN = s.flagN := rfl
@[simp] theorem State.flagH_store (s : State) (x : Nat) (v : Byte) : (s.store x v).flagH = s.flagH := rfl
@[simp] theorem State.flagC_store (s : State) (x : Nat) (v : Byte) : (s.store x v).flagC = s.flagC := rfl

@[simp] theorem State.b_setZ (s : State) (x : Bool) : (s.setZ x).b = s.b := rfl
@[simp] theorem State.c_setZ (s : State) (x : Bool) : (s.setZ x).c = s.c := rfl
@[simp] theorem State.d_setZ (s : State) (x : Bool) : (s.setZ x).d = s.d := rfl
@[simp] theorem State.e_setZ (s : State) (x : Bool) : (s.setZ x).e = s.e := rfl
@[simp] theorem State.h_setZ (s : State) (x : Bool) : (s.setZ x).h = s.h := rfl
@[simp] theorem State.l_setZ (s : State) (x : Bool) : (s.setZ x).l = s.l := rfl
@[simp] theorem State.a_setZ (s : State) (x : Bool) : (s.setZ x).a = s.a := rfl
@[simp] theorem State.pc_setZ (s : State) (x : Bool) : (s.setZ x).pc = s.pc := rfl
@[simp] theorem State.sp_setZ (s : State) (x : Bool) : (s.setZ x).sp = s.sp := rfl
@[simp] theorem State.mem_setZ (s : State) (x : Bool) : (s.setZ x).mem = s.mem := rfl
@[simp] theorem State.runState_setZ (s : State) (x : Bool) : (s.setZ x).runState = s.runState := rfl
@[simp] theorem State.runFlag_setZ (s : State) (x : Bool) : (s.setZ x).runFlag = s.runFlag := rfl
@[simp] theorem State.stepAck_setZ (s : State) (x : Bool) : (s.setZ x).stepAck = s.stepAck := rfl
@[simp] theorem State.hostNext_setZ (s : State) (x : Bool) : (s.setZ x).hostNext = s.hostNext := rfl
@[simp] theorem State.rstPushDelta_setZ (s : State) (x : Bool) : (s.setZ x).rstPushDelta = s.rstPushDelta := rfl
@[simp] theorem State.freeIndex_setZ (s : State) (x : Bool) : (s.setZ x).freeIndex = s.freeIndex := rfl
@[simp] theorem State.reg_setZ (s : State) (x : Bool) (r : Reg) : (s.setZ x).reg r = s.reg r := by cases r <;> rfl
@[simp] theorem State.pair_bc_setZ (s : State) (x : Bool) : (s.setZ x).pair .bc = s.pair .bc := rfl
@[simp] theorem State.pair_de_setZ (s : State) (x : Bool) : (s.setZ x).pair .de = s.pair .de := rfl
@[simp] theorem State.pair_hl_setZ (s : State) (x : Bool) : (s.setZ x).pair .hl = s.pair .hl := rfl
@[simp] theorem State.pair_pairOf_setZ (s : State) (x : Bool) (p : DataPair) : (s.setZ x).pair (pairOf p) = s.pair (pairOf p) := by cases p <;> rfl
@[simp] theorem State.byteAt_setZ (s : State) (x : Bool) (y : Nat) : (s.setZ x).byteAt y = s.byteAt y := rfl

@[simp] theorem State.b_setN (s : State) (x : Bool) : (s.setN x).b = s.b := rfl
@[simp] theorem State.c_setN (s : State) (x : Bool) : (s.setN x).c = s.c := rfl
@[simp] theorem State.d_setN (s : State) (x : Bool) : (s.setN x).d = s.d := rfl
@[simp] theorem State.e_setN (s : State) (x : Bool) : (s.setN x).e = s.e := rfl
@[simp] theorem State.h_setN (s : State) (x : Bool) : (s.setN x).h = s.h := rfl
@[simp] theorem State.l_setN (s : State) (x : Bool) : (s.setN x).l = s.l := rfl
@[simp] theorem State.a_setN (s : State) (x : Bool) : (s.setN x).a = s.a := rfl
@[simp] theorem State.pc_setN (s : State) (x : Bool) : (s.setN x).pc = s.pc := rfl
@[simp] theorem State.sp_setN (s : State) (x : Bool) : (s.setN x).sp = s.sp := rfl
@[simp] theorem State.mem_setN (s : State) (x : Bool) : (s.setN x).mem = s.mem := rfl
@[simp] theorem State.runState_setN (s : State) (x : Bool) : (s.setN x).runState = s.runState := rfl
@[simp] theorem State.runFlag_setN (s : State) (x : Bool) : (s.setN x).runFlag = s.runFlag := rfl
@[simp] theorem State.stepAck_setN (s : State) (x : Bool) : (s.setN x).stepAck = s.stepAck := rfl
@[simp] theorem State.hostNext_setN (s : State) (x : Bool) : (s.setN x).hostNext = s.hostNext := rfl
@[simp] theorem State.rstPushDelta_setN (s : State) (x : Bool) : (s.setN x).rstPushDelta = s.rstPushDelta := rfl
@[simp] theorem State.freeIndex_setN (s : State) (x : Bool) : (s.setN x).freeIndex = s.freeIndex := rfl
@[simp] theorem State.reg_setN (s : State) (x : Bool) (r : Reg) : (s.setN x).reg r = s.reg r := by cases r <;> rfl
@[simp] theorem State.pair_bc_setN (s : State) (x : Bool) : (s.setN x).pair .bc = s.pair .bc := rfl
@[simp] theorem State.pair_de_setN (s : State) (x : Bool) : (s.setN x).pair .de = s.pair .de := rfl
@[simp] theorem State.pair_hl_setN (s : State) (x : Bool) : (s.setN x).pair .hl = s.pair .hl := rfl
@[simp] theorem State.pair_pairOf_setN (s : State) (x : Bool) (p : DataPair) : (s.setN x).pair (pairOf p) = s.pair (pairOf p) := by cases p <;> rfl
@[simp] theorem State.byteAt_setN (s : State) (x : Bool) (y : Nat) : (s.setN x).byteAt y = s.byteAt y := rfl

@[simp] theorem State.b_setH (s : State) (x : Bool) : (s.setH x).b = s.b := rfl
@[simp] theorem State.c_setH (s : State) (x : Bool) : (s.setH x).c = s.c := rfl
@[simp] theorem State.d_setH (s : State) (x : Bool) : (s.setH x).d = s.d := rfl
@[simp] theorem State.e_setH (s : State) (x : Bool) : (s.setH x).e = s.e := rfl
@[simp] theorem State.h_setH (s : State) (x : Bool) : (s.setH x).h = s.h := rfl
@[simp] theorem State.l_setH (s : State) (x : Bool) : (s.setH x).l = s.l := rfl
@[simp] theorem State.a_setH (s : State) (x : Bool) : (s.setH x).a = s.a := rfl
@[simp] theorem State.pc_setH (s : State) (x : Bool) : (s.setH x).pc = s.pc := rfl
@[simp] theorem State.sp_setH (s : State) (x : Bool) : (s.setH x).sp = s.sp := rfl
@[simp] theorem State.mem_setH (s : State) (x : Bool) : (s.setH x).mem = s.mem := rfl
@[simp] theorem State.runState_setH (s : State) (x : Bool) : (s.setH x).runState = s.runState := rfl
@[simp] theorem State.runFlag_setH (s : State) (x : Bool) : (s.setH x).runFlag = s.runFlag := rfl
@[simp] theorem State.stepAck_setH (s : State) (x : Bool) : (s.setH x).stepAck = s.stepAck := rfl
@[simp] theorem State.hostNext_setH (s : State) (x : Bool) : (s.setH x).hostNext = s.hostNext := rfl
@[simp] theorem State.rstPushDelta_setH (s : State) (x : Bool) : (s.setH x).rstPushDelta = s.rstPushDelta := rfl
@[simp] theorem State.freeIndex_setH (s : State) (x : Bool) : (s.setH x).freeIndex = s.freeIndex := rfl
@[simp] theorem State.reg_setH (s : State) (x : Bool) (r : Reg) : (s.setH x).reg r = s.reg r := by cases r <;> rfl
@[simp] theorem State.pair_bc_setH (s : State) (x : Bool) : (s.setH x).pair .bc = s.pair .bc := rfl
@[simp] theorem State.pair_de_setH (s : State) (x : Bool) : (s.setH x).pair .de = s.pair .de := rfl
@[simp] theorem State.pair_hl_setH (s : State) (x : Bool) : (s.setH x).pair .hl = s.pair .hl := rfl
@[simp] theorem State.pair_pairOf_setH (s : State) (x : Bool) (p : DataPair) : (s.setH x).pair (pairOf p) = s.pair (pairOf p) := by cases p <;> rfl
@[simp] theorem State.byteAt_setH (s : State) (x : Bool) (y : Nat) : (s.setH x).byteAt y = s.byteAt y := rfl

@[simp] theorem State.b_setC (s : State) (x : Bool) : (s.setC x).b = s.b := rfl
@[simp] theorem State.c_setC (s : State) (x : Bool) : (s.setC x).c = s.c := rfl
@[simp] theorem State.d_setC (s : State) (x : Bool) : (s.setC x).d = s.d := rfl
@[simp] theorem State.e_setC (s : State) (x : Bool) : (s.setC x).e = s.e := rfl
@[simp] theorem State.h_setC (s : State) (x : Bool) : (s.setC x).h = s.h := rfl
@[simp] theorem State.l_setC (s : State) (x : Bool) : (s.setC x).l = s.l := rfl
@[simp] theorem State.a_setC (s : State) (x : Bool) : (s.setC x).a = s.a := rfl
@[simp] theorem State.pc_setC (s : State) (x : Bool) : (s.setC x).pc = s.pc := rfl
@[simp] theorem State.sp_setC (s : State) (x : Bool) : (s.setC x).sp = s.sp := rfl
@[simp] theorem State.mem_setC (s : State) (x : Bool) : (s.setC x).mem = s.mem := rfl
@[simp] theorem State.runState_setC (s : State) (x : Bool) : (s.setC x).runState = s.runState := rfl
@[simp] theorem State.runFlag_setC (s : State) (x : Bool) : (s.setC x).runFlag = s.runFlag := rfl
@[simp] theorem State.stepAck_setC (s : State) (x : Bool) : (s.setC x).stepAck = s.stepAck := rfl
@[simp] theorem State.hostNext_setC (s : State) (x : Bool) : (s.setC x).hostNext = s.hostNext := rfl
@[simp] theorem State.rstPushDelta_setC (s : State) (x : Bool) : (s.setC x).rstPushDelta = s.rstPushDelta := rfl
@[simp] theorem State.freeIndex_setC (s : State) (x : Bool) : (s.setC x).freeIndex = s.freeIndex := rfl
@[simp] theorem State.reg_setC (s : State) (x : Bool) (r : Reg) : (s.setC x).reg r = s.reg r := by cases r <;> rfl
@[simp] theorem State.pair_bc_setC (s : State) (x : Bool) : (s.setC x).pair .bc = s.pair .bc := rfl
@[simp] theorem State.pair_de_setC (s : State) (x : Bool) : (s.setC x).pair .de = s.pair .de := rfl
@[simp] theorem State.pair_hl_setC (s : State) (x : Bool) : (s.setC x).pair .hl = s.pair .hl := rfl
@[simp] theorem State.pair_pairOf_setC (s : State) (x : Bool) (p : DataPair) : (s.setC x).pair (pairOf p) = s.pair (pairOf p) := by cases p <;> rfl
@[simp] theorem State.byteAt_setC (s : State) (x : Bool) (y : Nat) : (s.setC x).byteAt y = s.byteAt y := rfl

@[simp] theorem State.b_setZNH (s : State) (z n h : Bool) : (s.setZNH z n h).b = s.b := rfl
@[simp] theorem State.c_setZNH (s : State) (z n h : Bool) : (s.setZNH z n h).c = s.c := rfl
@[simp] theorem State.d_setZNH (s : State) (z n h : Bool) : (s.setZNH z n h).d = s.d := rfl
@[simp] theorem State.e_setZNH (s : State) (z n h : Bool) : (s.setZNH z n h).e = s.e := rfl
@[simp] theorem State.h_setZNH (s : State) (z n h : Bool) : (s.setZNH z n h).h = s.h := rfl
@[simp] theorem State.l_setZNH (s : State) (z n h : Bool) : (s.setZNH z n h).l = s.l := rfl
@[simp] theorem State.a_setZNH (s : State) (z n h : Bool) : (s.setZNH z n h).a = s.a := rfl
@[simp] theorem State.pc_setZNH (s : State) (z n h : Bool) : (s.setZNH z n h).pc = s.pc := rfl
@[simp] theorem State.sp_setZNH (s : State) (z n h : Bool) : (s.setZNH z n h).sp = s.sp := rfl
@[simp] theorem State.mem_setZNH (s : State) (z n h : Bool) : (s.setZNH z n h).mem = s.mem := rfl
@[simp] theorem State.runState_setZNH (s : State) (z n h : Bool) : (s.setZNH z n h).runState = s.runState := rfl
@[simp] theorem State.runFlag_setZNH (s : State) (z n h : Bool) : (s.setZNH z n h).runFlag = s.runFlag := rfl
@[simp] theorem State.stepAck_setZNH (s : State) (z n h : Bool) : (s.setZNH z n h).stepAck = s.stepAck := rfl
@[simp] theorem State.hostNext_setZNH (s : State) (z n h : Bool) : (s.setZNH z n h).hostNext = s.hostNext := rfl
@[simp] theorem State.rstPushDelta_setZNH (s : State) (z n h : Bool) : (s.setZNH z n h).rstPushDelta = s.rstPushDelta := rfl
@[simp] theorem State.freeIndex_setZNH (s : State) (z n h : Bool) : (s.setZNH z n h).freeIndex = s.freeIndex := rfl
@[simp] theorem State.reg_setZNH (s : State) (z n h : Bool) (r : Reg) : (s.setZNH z n h).reg r = s.reg r := by cases r <;> rfl
@[simp] theorem State.pair_bc_setZNH (s : State) (z n h : Bool) : (s.setZNH z n h).pair .bc = s.pair .bc := rfl
@[simp] theorem State.pair_de_setZNH (s : State) (z n h : Bool) : (s.setZNH z n h).pair .de = s.pair .de := rfl
@[simp] theorem State.pair_hl_setZNH (s : State) (z n h : Bool) : (s.setZNH z n h).pair .hl = s.pair .hl := rfl
@[simp] theorem State.pair_pairOf_setZNH (s : State) (z n h : Bool) (p : DataPair) : (s.setZNH z n h).pair (pairOf p) = s.pair (pairOf p) := by cases p <;> rfl
@[simp] theorem State.byteAt_setZNH (s : State) (z n h : Bool) (y : Nat) : (s.setZNH z n h).byteAt y = s.byteAt y := rfl

@[simp] theorem State.b_setZNHC (s : State) (z n h c : Bool) : (s.setZNHC z n h c).b = s.b := rfl
@[simp] theorem State.c_setZNHC (s : State) (z n h c : Bool) : (s.setZNHC z n h c).c = s.c := rfl
@[simp] theorem State.d_setZNHC (s : State) (z n h c : Bool) : (s.setZNHC z n h c).d = s.d := rfl
@[simp] theorem State.e_setZNHC (s : State) (z n h c : Bool) : (s.setZNHC z n h c).e = s.e := rfl
@[simp] theorem State.h_setZNHC (s : State) (z n h c : Bool) : (s.setZNHC z n h c).h = s.h := rfl
@[simp] theorem State.l_setZNHC (s : State) (z n h c : Bool) : (s.setZNHC z n h c).l = s.l := rfl
@[simp] theorem State.a_setZNHC (s : State) (z n h c : Bool) : (s.setZNHC z n h c).a = s.a := rfl
@[simp] theorem State.pc_setZNHC (s : State) (z n h c : Bool) : (s.setZNHC z n h c).pc = s.pc := rfl
@[simp] theorem State.sp_setZNHC (s : State) (z n h c : Bool) : (s.setZNHC z n h c).sp = s.sp := rfl
@[simp] theorem State.mem_setZNHC (s : State) (z n h c : Bool) : (s.setZNHC z n h c).mem = s.mem := rfl
@[simp] theorem State.runState_setZNHC (s : State) (z n h c : Bool) : (s.setZNHC z n h c).runState = s.runState := rfl
@[simp] theorem State.runFlag_setZNHC (s : State) (z n h c : Bool) : (s.setZNHC z n h c).runFlag = s.runFlag := rfl
@[simp] theorem State.stepAck_setZNHC (s : State) (z n h c : Bool) : (s.setZNHC z n h c).stepAck = s.stepAck := rfl
@[simp] theorem State.hostNext_setZNHC (s : State) (z n h c : Bool) : (s.setZNHC z n h c).hostNext = s.hostNext := rfl
@[simp] theorem State.rstPushDelta_setZNHC (s : State) (z n h c : Bool) : (s.setZNHC z n h c).rstPushDelta = s.rstPushDelta := rfl
@[simp] theorem State.freeIndex_setZNHC (s : State) (z n h c : Bool) : (s.setZNHC z n h c).freeIndex = s.freeIndex := rfl
@[simp] theorem State.reg_setZNHC (s : State) (z n h c : Bool) (r : Reg) : (s.setZNHC z n h c).reg r = s.reg r := by cases r <;> rfl
@[simp] theorem State.pair_bc_setZNHC (s : State) (z n h c : Bool) : (s.setZNHC z n h c).pair .bc = s.pair .bc := rfl
@[simp] theorem State.pair_de_setZNHC (s : State) (z n h c : Bool) : (s.setZNHC z n h c).pair .de = s.pair .de := rfl
@[simp] theorem State.pair_hl_setZNHC (s : State) (z n h c : Bool) : (s.setZNHC z n h c).pair .hl = s.pair .hl := rfl
@[simp] theorem State.pair_pairOf_setZNHC (s : State) (z n h c : Bool) (p : DataPair) : (s.setZNHC z n h c).pair (pairOf p) = s.pair (pairOf p) := by cases p <;> rfl
@[simp] theorem State.byteAt_setZNHC (s : State) (z n h c : Bool) (y : Nat) : (s.setZNHC z n h c).byteAt y = s.byteAt y := rfl

@[simp] theorem State.pc_setPc_self (s : State) (v : Word) : (s.setPc v).pc = v := rfl
@[simp] theorem State.sp_setSp_self (s : State) (v : Word) : (s.setSp v).sp = v := rfl
@[simp] theorem State.pc_advance_self (s : State) (n : Word) : (s.advance n).pc = s.pc + n := rfl
@[simp] theorem State.mem_store_self (s : State) (x : Nat) (v : Byte) : (s.store x v).mem = writeCell s.mem x v := rfl

@[simp] theorem State.f_setReg (s : State) (r : Reg) (v : Byte) : (s.setReg r v).f = s.f := by cases r <;> rfl
@[simp] theorem State.pc_setReg (s : State) (r : Reg) (v : Byte) : (s.setReg r v).pc = s.pc := by cases r <;> rfl
@[simp] theorem State.sp_setReg (s : State) (r : Reg) (v : Byte) : (s.setReg r v).sp = s.sp := by cases r <;> rfl
@[simp] theorem State.mem_setReg (s : State) (r : Reg) (v : Byte) : (s.setReg r v).mem = s.mem := by cases r <;> rfl
@[simp] theorem State.runState_setReg (s : State) (r : Reg) (v : Byte) : (s.setReg r v).runState = s.runState := by cases r <;> rfl
@[simp] theorem State.runFlag_setReg (s : State) (r : Reg) (v : Byte) : (s.setReg r v).runFlag = s.runFlag := by cases r <;> rfl
@[simp] theorem State.stepAck_setReg (s : State) (r : Reg) (v : Byte) : (s.setReg r v).stepAck = s.stepAck := by cases r <;> rfl
@[simp] theorem State.hostNext_setReg (s : State) (r : Reg) (v : Byte) : (s.setReg r v).hostNext = s.hostNext := by cases r <;> rfl
@[simp] theorem State.rstPushDelta_setReg (s : State) (r : Reg) (v : Byte) : (s.setReg r v).rstPushDelta = s.rstPushDelta := by cases r <;> rfl
@[simp] theorem State.freeIndex_setReg (s : State) (r : Reg) (v : Byte) : (s.setReg r v).freeIndex = s.freeIndex := by cases r <;> rfl
@[simp] theorem State.byteAt_setReg (s : State) (r : Reg) (v : Byte) (y : Nat) : (s.setReg r v).byteAt y = s.byteAt y := by cases r <;> rfl
@[simp] theorem State.flagZ_setReg (s : State) (r : Reg) (v : Byte) : (s.setReg r v).flagZ = s.flagZ := by cases r <;> rfl
@[simp] theorem State.flagN_setReg (s : State) (r : Reg) (v : Byte) : (s.setReg r v).flagN = s.flagN := by cases r <;> rfl
@[simp] theorem State.flagH_setReg (s : State) (r : Reg) (v : Byte) : (s.setReg r v).flagH = s.flagH := by cases r <;> rfl
@[simp] theorem State.flagC_setReg (s : State) (r : Reg) (v : Byte) : (s.setReg r v).flagC = s.flagC := by cases r <;> rfl
@[simp] theorem State.reg_setReg_self (s : State) (r : Reg) (v : Byte) : (s.setReg r v).reg r = v := by cases r <;> rfl

/-- Writing one register leaves every other (`10_state.md` R11). -/
theorem State.reg_setReg_of_ne (s : State) {r r' : Reg} (v : Byte) (h : r' ≠ r) : (s.setReg r v).reg r' = s.reg r' := by
  cases r <;> cases r' <;> first | rfl | exact absurd rfl h

@[simp] theorem State.pc_setPair (s : State) (p : Pair) (v : Word) : (s.setPair p v).pc = s.pc := by cases p <;> rfl
@[simp] theorem State.sp_setPair (s : State) (p : Pair) (v : Word) : (s.setPair p v).sp = s.sp := by cases p <;> rfl
@[simp] theorem State.mem_setPair (s : State) (p : Pair) (v : Word) : (s.setPair p v).mem = s.mem := by cases p <;> rfl
@[simp] theorem State.runState_setPair (s : State) (p : Pair) (v : Word) : (s.setPair p v).runState = s.runState := by cases p <;> rfl
@[simp] theorem State.runFlag_setPair (s : State) (p : Pair) (v : Word) : (s.setPair p v).runFlag = s.runFlag := by cases p <;> rfl
@[simp] theorem State.stepAck_setPair (s : State) (p : Pair) (v : Word) : (s.setPair p v).stepAck = s.stepAck := by cases p <;> rfl
@[simp] theorem State.hostNext_setPair (s : State) (p : Pair) (v : Word) : (s.setPair p v).hostNext = s.hostNext := by cases p <;> rfl
@[simp] theorem State.rstPushDelta_setPair (s : State) (p : Pair) (v : Word) : (s.setPair p v).rstPushDelta = s.rstPushDelta := by cases p <;> rfl
@[simp] theorem State.freeIndex_setPair (s : State) (p : Pair) (v : Word) : (s.setPair p v).freeIndex = s.freeIndex := by cases p <;> rfl
@[simp] theorem State.byteAt_setPair (s : State) (p : Pair) (v : Word) (y : Nat) : (s.setPair p v).byteAt y = s.byteAt y := by cases p <;> rfl

/-- Writing a pair other than AF leaves F. -/
theorem State.f_setPair_of_ne (s : State) {p : Pair} (v : Word) (h : p ≠ .af) : (s.setPair p v).f = s.f := by
  cases p <;> first | rfl | exact absurd rfl h

@[simp] theorem State.f_setPair_dataPair (s : State) (p : DataPair) (v : Word) : (s.setPair (pairOf p) v).f = s.f := by
  cases p <;> rfl

@[simp] theorem State.f_setPair_hl (s : State) (v : Word) : (s.setPair .hl v).f = s.f := rfl
@[simp] theorem State.flagC_setPair_dataPair (s : State) (p : DataPair) (v : Word) :
    (s.setPair (pairOf p) v).flagC = s.flagC := by
  cases p <;> rfl
@[simp] theorem State.flagC_setPair_hl (s : State) (v : Word) : (s.setPair .hl v).flagC = s.flagC := rfl

/-- Writing a pair leaves every register outside it (`10_state.md` R11). -/
theorem State.reg_setPair_of_not_mem (s : State) {p : Pair} (v : Word) {r : Reg} (h : r ∉ regsOf p) :
    (s.setPair p v).reg r = s.reg r := by
  cases p <;> cases r <;> first | rfl | exact absurd (by decide) h

end Sys2Proof.Machine
end

