-- ==== Sys2Proof/Laws/Ops.lean ====
section
/-! SUPPORT. What each shared operation does, said once: an equation for each case, and for the checked accesses the
inversion "if it answers a next state, then". -/

namespace Sys2Proof.Machine

/-- Two outcomes that are next states are equal exactly when the states are. -/
theorem next_inj {s t : State} : (Host.Outcome.next s : Out) = .next t ↔ s = t :=
  ⟨fun h => by cases h; rfl, fun h => by rw [h]⟩

theorem inRange_iff (addr : Int) : inRange addr = true ↔ 0 ≤ addr ∧ addr ≤ 0xFFFF := by
  simp [inRange]

theorem inRange_addrOf (v : Word) : inRange (addrOf v) = true := by
  have h := v.isLt
  rw [inRange_iff]
  simp only [addrOf]
  omega

@[simp] theorem toNat_addrOf (v : Word) : (addrOf v).toNat = v.toNat := by
  simp [addrOf]

theorem withRead_of_inRange {addr : Int} (h : inRange addr = true) (s : State) (k : Byte → Out) :
    withRead addr s k = k (s.byteAt addr.toNat) := by
  simp [withRead, h]

theorem withRead_of_not_inRange {addr : Int} (h : inRange addr = false) (s : State) (k : Byte → Out) :
    withRead addr s k = raise (.addressOutOfRange addr) s := by
  simp [withRead, h]

theorem withWrite_of_inRange {addr : Int} (h : inRange addr = true) (v : Byte) (s : State) (k : State → Out) :
    withWrite addr v s k = k (s.store addr.toNat v) := by
  simp [withWrite, h]

theorem withWrite_of_not_inRange {addr : Int} (h : inRange addr = false) (v : Byte) (s : State) (k : State → Out) :
    withWrite addr v s k = raise (.addressOutOfRange addr) s := by
  simp [withWrite, h]

/-- Everything a checked read can do: go on with the byte, or raise with the state as it is. -/
theorem withRead_next {addr : Int} {s t : State} {k : Byte → Out} (h : withRead addr s k = .next t) :
    (inRange addr = true ∧ k (s.byteAt addr.toNat) = .next t) ∨
    (inRange addr = false ∧ t = { s with runState := .faulted ⟨.addressOutOfRange addr, s.pc⟩ }) := by
  cases hr : inRange addr
  · rw [withRead_of_not_inRange hr] at h
    exact .inr ⟨rfl, (next_inj.mp h).symm⟩
  · rw [withRead_of_inRange hr] at h
    exact .inl ⟨rfl, h⟩

/-- Everything a checked write can do: go on with the byte stored, or raise with the state as it is. -/
theorem withWrite_next {addr : Int} {v : Byte} {s t : State} {k : State → Out} (h : withWrite addr v s k = .next t) :
    (inRange addr = true ∧ k (s.store addr.toNat v) = .next t) ∨
    (inRange addr = false ∧ t = { s with runState := .faulted ⟨.addressOutOfRange addr, s.pc⟩ }) := by
  cases hr : inRange addr
  · rw [withWrite_of_not_inRange hr] at h
    exact .inr ⟨rfl, (next_inj.mp h).symm⟩
  · rw [withWrite_of_inRange hr] at h
    exact .inl ⟨rfl, h⟩

/-- An access at the value of a 16-bit register never faults (`20_memory.md` R36). -/
theorem withRead_addrOf (v : Word) (s : State) (k : Byte → Out) : withRead (addrOf v) s k = k (s.byteAt v.toNat) := by
  rw [withRead_of_inRange (inRange_addrOf v), toNat_addrOf]

theorem withWrite_addrOf (v : Word) (x : Byte) (s : State) (k : State → Out) :
    withWrite (addrOf v) x s k = k (s.store v.toNat x) := by
  rw [withWrite_of_inRange (inRange_addrOf v), toNat_addrOf]

theorem inRange_highAddr (n : Byte) : inRange (highAddr n) = true := by
  have h := n.isLt
  rw [inRange_iff]
  simp only [highAddr]
  omega

/-- An access in the I/O page never faults (`20_memory.md` R36). -/
theorem withRead_highAddr (n : Byte) (s : State) (k : Byte → Out) :
    withRead (highAddr n) s k = k (s.byteAt (highAddr n).toNat) :=
  withRead_of_inRange (inRange_highAddr n) s k

theorem withWrite_highAddr (n : Byte) (x : Byte) (s : State) (k : State → Out) :
    withWrite (highAddr n) x s k = k (s.store (highAddr n).toNat x) :=
  withWrite_of_inRange (inRange_highAddr n) x s k

/-- A push with room for two bytes below SP (`41_stack.md` R82). -/
theorem push16_of_room {s : State} (h : 2 ≤ s.sp.toNat) (v : Word) (k : State → Out) :
    push16 v s k =
      k (((s.store (addrOf s.sp - 1).toNat (highByte v)).store (addrOf s.sp - 2).toNat (lowByte v)).setSp (s.sp - 2)) := by
  have hlt := s.sp.isLt
  have h1 : inRange (addrOf s.sp - 1) = true := by
    rw [inRange_iff]; simp only [addrOf]; omega
  have h2 : inRange (addrOf s.sp - 2) = true := by
    rw [inRange_iff]; simp only [addrOf]; omega
  simp only [push16, withWrite_of_inRange h1, State.sp_store, withWrite_of_inRange h2]

/-- A push from SP = 0 faults before any write (`41_stack.md` R82). -/
theorem push16_of_zero {s : State} (h : s.sp.toNat = 0) (v : Word) (k : State → Out) :
    push16 v s k = raise (.addressOutOfRange (-1)) s := by
  have h1 : addrOf s.sp - 1 = -1 := by simp [addrOf, h]
  simp only [push16, h1, withWrite_of_not_inRange (show inRange (-1) = false by decide)]

/-- A push from SP = 1 faults after the high byte was written at 0 (`41_stack.md` R82). -/
theorem push16_of_one {s : State} (h : s.sp.toNat = 1) (v : Word) (k : State → Out) :
    push16 v s k = raise (.addressOutOfRange (-1)) (s.store 0 (highByte v)) := by
  have h1 : addrOf s.sp - 1 = 0 := by simp [addrOf, h]
  have h2 : addrOf s.sp - 2 = -1 := by simp [addrOf, h]
  simp only [push16, h1, withWrite_of_inRange (show inRange 0 = true by decide), State.sp_store, h2,
    withWrite_of_not_inRange (show inRange (-1) = false by decide)]
  rfl

/-- Everything a push can do: go on with both bytes stored and SP two lower, or raise AddressOutOfRange(-1) with at most
the high byte stored at 0. -/
theorem push16_next {v : Word} {s t : State} {k : State → Out} (h : push16 v s k = .next t) :
    (2 ≤ s.sp.toNat ∧
      k (((s.store (addrOf s.sp - 1).toNat (highByte v)).store (addrOf s.sp - 2).toNat (lowByte v)).setSp (s.sp - 2)) = .next t) ∨
    (s.sp.toNat = 0 ∧ t = { s with runState := .faulted ⟨.addressOutOfRange (-1), s.pc⟩ }) ∨
    (s.sp.toNat = 1 ∧ t = { s.store 0 (highByte v) with runState := .faulted ⟨.addressOutOfRange (-1), s.pc⟩ }) := by
  by_cases h2 : 2 ≤ s.sp.toNat
  · rw [push16_of_room h2] at h
    exact .inl ⟨h2, h⟩
  · by_cases h0 : s.sp.toNat = 0
    · rw [push16_of_zero h0] at h
      exact .inr (.inl ⟨h0, (next_inj.mp h).symm⟩)
    · have h1 : s.sp.toNat = 1 := by omega
      rw [push16_of_one h1] at h
      exact .inr (.inr ⟨h1, (next_inj.mp h).symm⟩)

/-- A pop with both bytes in the address space (`41_stack.md` R83). -/
theorem pop16_of_room {s : State} (h : s.sp.toNat < 0xFFFF) (k : Word → State → Out) :
    pop16 s k = k (wordOf (s.byteAt (s.sp.toNat + 1)) (s.byteAt s.sp.toNat)) (s.setSp (s.sp + 2)) := by
  have h1 : inRange (addrOf s.sp + 1) = true := by
    rw [inRange_iff]; simp only [addrOf]; omega
  have h2 : (addrOf s.sp + 1).toNat = s.sp.toNat + 1 := by simp only [addrOf]; omega
  simp only [pop16, withRead_addrOf, withRead_of_inRange h1, h2]

/-- A pop from SP = 0xFFFF faults before any write (`41_stack.md` R83). -/
theorem pop16_of_top {s : State} (h : s.sp.toNat = 0xFFFF) (k : Word → State → Out) :
    pop16 s k = raise (.addressOutOfRange 0x10000) s := by
  have h1 : addrOf s.sp + 1 = 0x10000 := by simp only [addrOf]; omega
  simp only [pop16, withRead_addrOf, h1, withRead_of_not_inRange (show inRange 0x10000 = false by decide)]

/-- Everything a pop can do: go on with the word and SP two higher, or raise AddressOutOfRange(0x10000). -/
theorem pop16_next {s t : State} {k : Word → State → Out} (h : pop16 s k = .next t) :
    (s.sp.toNat < 0xFFFF ∧
      k (wordOf (s.byteAt (s.sp.toNat + 1)) (s.byteAt s.sp.toNat)) (s.setSp (s.sp + 2)) = .next t) ∨
    (s.sp.toNat = 0xFFFF ∧ t = { s with runState := .faulted ⟨.addressOutOfRange 0x10000, s.pc⟩ }) := by
  by_cases hr : s.sp.toNat < 0xFFFF
  · rw [pop16_of_room hr] at h
    exact .inl ⟨hr, h⟩
  · have hlt := s.sp.isLt
    have ht : s.sp.toNat = 0xFFFF := by omega
    rw [pop16_of_top ht] at h
    exact .inr ⟨ht, (next_inj.mp h).symm⟩

/-- An operand read never faults and gives the operand's value (`45_extended.md`). -/
theorem withOperand_eq (x : Operand8) (s : State) (k : Byte → Out) : withOperand x s k = k (operandValue x s) := by
  cases x with
  | reg r => rfl
  | atHL => exact withRead_addrOf _ s k

@[simp] theorem putOperand_reg (r : Reg) (v : Byte) (s : State) (k : State → Out) :
    putOperand (.reg r) v s k = k (s.setReg r v) := rfl

@[simp] theorem putOperand_atHL (v : Byte) (s : State) (k : State → Out) :
    putOperand .atHL v s k = k (s.store (s.pair .hl).toNat v) :=
  withWrite_addrOf _ v s k

/-! ## Flags after a flag write (`10_state.md` R14) -/

theorem flag_putBit (f : Byte) {i : Nat} (x : Bool) (hi : i < 8) (j : Nat) :
    (putBit f i x).getLsbD j = if j = i then x else f.getLsbD j := getLsbD_putBit f x hi j

@[simp] theorem State.flagZ_setZNH (s : State) (z n h : Bool) : (s.setZNH z n h).flagZ = z := by
  simp (disch := decide) only [State.flagZ, State.setZNH, State.setZ, State.setN, State.setH, getLsbD_putBit]
  rfl

@[simp] theorem State.flagN_setZNH (s : State) (z n h : Bool) : (s.setZNH z n h).flagN = n := by
  simp (disch := decide) only [State.flagN, State.setZNH, State.setZ, State.setN, State.setH, getLsbD_putBit]
  rfl

@[simp] theorem State.flagH_setZNH (s : State) (z n h : Bool) : (s.setZNH z n h).flagH = h := by
  simp (disch := decide) only [State.flagH, State.setZNH, State.setZ, State.setN, State.setH, getLsbD_putBit]
  rfl

@[simp] theorem State.flagC_setZNH (s : State) (z n h : Bool) : (s.setZNH z n h).flagC = s.flagC := by
  simp (disch := decide) only [State.flagC, State.setZNH, State.setZ, State.setN, State.setH, getLsbD_putBit]
  rfl

theorem State.lowF_setZNH (s : State) (z n h : Bool) {i : Nat} (hi : i < 4) :
    (s.setZNH z n h).f.getLsbD i = s.f.getLsbD i := by
  have h7 : i ≠ 7 := by omega
  have h6 : i ≠ 6 := by omega
  have h5 : i ≠ 5 := by omega
  simp [State.setZNH, State.setZ, State.setN, State.setH, getLsbD_putBit, h7, h6, h5]

@[simp] theorem State.flagZ_setZNHC (s : State) (z n h c : Bool) : (s.setZNHC z n h c).flagZ = z := by
  simp (disch := decide) only [State.flagZ, State.setZNHC, State.setZNH, State.setZ, State.setN, State.setH, State.setC, getLsbD_putBit]
  rfl

@[simp] theorem State.flagN_setZNHC (s : State) (z n h c : Bool) : (s.setZNHC z n h c).flagN = n := by
  simp (disch := decide) only [State.flagN, State.setZNHC, State.setZNH, State.setZ, State.setN, State.setH, State.setC, getLsbD_putBit]
  rfl

@[simp] theorem State.flagH_setZNHC (s : State) (z n h c : Bool) : (s.setZNHC z n h c).flagH = h := by
  simp (disch := decide) only [State.flagH, State.setZNHC, State.setZNH, State.setZ, State.setN, State.setH, State.setC, getLsbD_putBit]
  rfl

@[simp] theorem State.flagC_setZNHC (s : State) (z n h c : Bool) : (s.setZNHC z n h c).flagC = c := by
  simp (disch := decide) only [State.flagC, State.setZNHC, State.setZNH, State.setZ, State.setN, State.setH, State.setC, getLsbD_putBit]
  rfl

theorem State.lowF_setZNHC (s : State) (z n h c : Bool) {i : Nat} (hi : i < 4) :
    (s.setZNHC z n h c).f.getLsbD i = s.f.getLsbD i := by
  have h7 : i ≠ 7 := by omega
  have h6 : i ≠ 6 := by omega
  have h5 : i ≠ 5 := by omega
  have h4 : i ≠ 4 := by omega
  simp [State.setZNHC, State.setZNH, State.setZ, State.setN, State.setH, State.setC, getLsbD_putBit, h7, h6, h5, h4]

/-! ## Pairs and registers -/

@[simp] theorem State.pair_setPair_self (s : State) (p : Pair) (v : Word) : (s.setPair p v).pair p = v := by
  cases p <;> exact wordOf_high_low v

end Sys2Proof.Machine
end

