-- ==== Sys2Proof/Laws/Families.lean ====
section
/-! SUPPORT. `exec` on the rows of each family is that family's shared operation; a proof over a family cites one of
these instead of unfolding `exec`. -/

namespace Sys2Proof.Machine

@[simp] theorem exec_pushInstr (p : Pair) (s : State) : exec (pushInstr p) s = pushPair p s := by cases p <;> rfl
@[simp] theorem exec_popInstr (p : Pair) (s : State) : exec (popInstr p) s = popPair p s := by cases p <;> rfl
@[simp] theorem exec_ldInstr (r r' : Reg) (s : State) : exec (ldInstr r r') s = ldReg r r' s := by
  cases r <;> cases r' <;> rfl
@[simp] theorem exec_ldImmInstr (r : Reg) (n : Byte) (s : State) : exec (ldImmInstr r n) s = ldRegImm r n s := by
  cases r <;> rfl
@[simp] theorem exec_ldPairImmInstr (p : DataPair) (nn : Word) (s : State) :
    exec (ldPairImmInstr p nn) s = ldPairImm p nn s := by cases p <;> rfl
@[simp] theorem exec_ldAFromAtInstr (p : DataPair) (s : State) :
    exec (ldAFromAtInstr p) s = loadA (addrOf (s.pair (pairOf p))) 1 s := by cases p <;> rfl
@[simp] theorem exec_incInstr (r : Reg) (s : State) : exec (incInstr r) s = incReg r s := by cases r <;> rfl
@[simp] theorem exec_decInstr (r : Reg) (s : State) : exec (decInstr r) s = decReg r s := by cases r <;> rfl
@[simp] theorem exec_incPairInstr (p : DataPair) (s : State) : exec (incPairInstr p) s = incPair p s := by cases p <;> rfl
@[simp] theorem exec_xorInstr (r : Reg) (s : State) : exec (xorInstr r) s = xorReg r s := by cases r <;> rfl
@[simp] theorem exec_jrCondInstr (cc : Cond) (e : Byte) (s : State) : exec (jrCondInstr cc e) s = jumpIf cc e s := by
  cases cc <;> rfl
@[simp] theorem exec_rstInstr (t : Index8) (s : State) : exec (rstInstr t) s = restart t s := by cases t <;> rfl
@[simp] theorem exec_rlcInstr (x : Operand8) (s : State) : exec (rlcInstr x) s = runShift .rlc x s := by
  cases x with
  | reg r => cases r <;> rfl
  | atHL => rfl
@[simp] theorem exec_rrcInstr (x : Operand8) (s : State) : exec (rrcInstr x) s = runShift .rrc x s := by
  cases x with
  | reg r => cases r <;> rfl
  | atHL => rfl
@[simp] theorem exec_rlInstr (x : Operand8) (s : State) : exec (rlInstr x) s = runShift .rl x s := by
  cases x with
  | reg r => cases r <;> rfl
  | atHL => rfl
@[simp] theorem exec_rrInstr (x : Operand8) (s : State) : exec (rrInstr x) s = runShift .rr x s := by
  cases x with
  | reg r => cases r <;> rfl
  | atHL => rfl
@[simp] theorem exec_slaInstr (x : Operand8) (s : State) : exec (slaInstr x) s = runShift .sla x s := by
  cases x with
  | reg r => cases r <;> rfl
  | atHL => rfl
@[simp] theorem exec_sraInstr (x : Operand8) (s : State) : exec (sraInstr x) s = runShift .sra x s := by
  cases x with
  | reg r => cases r <;> rfl
  | atHL => rfl
@[simp] theorem exec_srlInstr (x : Operand8) (s : State) : exec (srlInstr x) s = runShift .srl x s := by
  cases x with
  | reg r => cases r <;> rfl
  | atHL => rfl
@[simp] theorem exec_shiftInstr (op : ShiftOp) (x : Operand8) (s : State) : exec (shiftInstr op x) s = runShift op x s := by
  cases op <;> simp [shiftInstr]
@[simp] theorem exec_bitInstr (b : Index8) (x : Operand8) (s : State) : exec (bitInstr b x) s = runBit b x s := by
  cases x with
  | reg r => cases b <;> cases r <;> rfl
  | atHL => cases b <;> rfl
@[simp] theorem exec_resInstr (b : Index8) (x : Operand8) (s : State) : exec (resInstr b x) s = runRes b x s := by
  cases x with
  | reg r => cases b <;> cases r <;> rfl
  | atHL => cases b <;> rfl
@[simp] theorem exec_setInstr (b : Index8) (x : Operand8) (s : State) : exec (setInstr b x) s = runSet b x s := by
  cases x with
  | reg r => cases b <;> cases r <;> rfl
  | atHL => cases b <;> rfl
@[simp] theorem exec_extInstr (op : ExtOp) (s : State) : exec (extInstr op) s = runExt op s := by
  cases op <;> simp [extInstr, runExt]

@[simp] theorem exec_ldAtImmFromSP (nn : Word) (s : State) : exec (.ldAtImmFromSP nn) s = execLdAtImmFromSP nn s := rfl
@[simp] theorem exec_ldAtHLImm (n : Byte) (s : State) : exec (.ldAtHLImm n) s = execLdAtHLImm n s := rfl
@[simp] theorem exec_ldSPImm (nn : Word) (s : State) : exec (.ldSPImm nn) s = .next ((s.setSp nn).advance 3) := rfl
@[simp] theorem exec_ldAtHLIncFromA (s : State) : exec .ldAtHLIncFromA s = storeAStepHL 1 s := rfl
@[simp] theorem exec_ldAtHLDecFromA (s : State) : exec .ldAtHLDecFromA s = storeAStepHL (-1) s := rfl
@[simp] theorem exec_ldAFromAtHLInc (s : State) : exec .ldAFromAtHLInc s = loadAStepHL 1 s := rfl
@[simp] theorem exec_ldAFromAtHLDec (s : State) : exec .ldAFromAtHLDec s = loadAStepHL (-1) s := rfl
@[simp] theorem exec_ldHighImmFromA (n : Byte) (s : State) : exec (.ldHighImmFromA n) s = storeA (highAddr n) 2 s := rfl
@[simp] theorem exec_ldAFromHighImm (n : Byte) (s : State) : exec (.ldAFromHighImm n) s = loadA (highAddr n) 2 s := rfl
@[simp] theorem exec_ldHighCFromA (s : State) : exec .ldHighCFromA s = storeA (highAddr (s.reg .c)) 1 s := rfl
@[simp] theorem exec_ldAFromHighC (s : State) : exec .ldAFromHighC s = loadA (highAddr (s.reg .c)) 1 s := rfl
@[simp] theorem exec_rlaAcc (s : State) : exec .rlaAcc s = execRlaAcc s := rfl
@[simp] theorem exec_jr (e : Byte) (s : State) : exec (.jr e) s = jumpRelative e s := rfl
@[simp] theorem exec_call (nn : Word) (s : State) : exec (.call nn) s = execCall nn s := rfl

/-- The prefix row by what the extended table holds for its byte (`44_control.md` R124). -/
theorem exec_prefixCB (ext : Byte) (s : State) :
    exec (.prefixCB ext) s =
      match extOpOfByte ext with
      | some op => runExt op s
      | none => raise (.unimplementedOpcode ext) s := rfl

/-! ## The loop (`40_fetch_execute.md` R70) -/

/-- A step about to fetch runs fetch, decode and execute on the state after the host's turn. -/
theorem step_of_running {s : State} (hr : s.runState = .running) (hf : s.runFlag = true) :
    step s = fetchThen exec (hostTurn s) := by
  simp [step, loopStep, hr, hf]

theorem step_of_flag_false {s : State} (hr : s.runState = .running) (hf : s.runFlag = false) :
    step s = .next { s with runState := .stopped } := by
  simp [step, loopStep, hr, hf]

theorem step_of_stopped {s : State} (hr : s.runState = .stopped) : step s = .next s := by
  simp [step, loopStep, hr]

theorem step_of_faulted {s : State} {record : FaultRecord} (hr : s.runState = .faulted record) : step s = .next s := by
  simp [step, loopStep, hr]

/-- The bytes a fetch sees, by how far pc is from the top of memory. -/
theorem fetchBytes_of_low {s : State} (h : s.pc.toNat + 2 ≤ 0xFFFF) :
    fetchBytes s = [s.byteAt s.pc.toNat, s.byteAt (s.pc.toNat + 1), s.byteAt (s.pc.toNat + 2)] := by
  have h0 : s.pc.toNat ≤ 65535 := by omega
  have h1 : s.pc.toNat + 1 ≤ 65535 := by omega
  simp [fetchBytes, List.range_succ, h0, h1, h]

theorem fetchBytes_of_fffe {s : State} (h : s.pc.toNat = 0xFFFE) :
    fetchBytes s = [s.byteAt 0xFFFE, s.byteAt 0xFFFF] := by
  simp [fetchBytes, List.range_succ, h]

theorem fetchBytes_of_ffff {s : State} (h : s.pc.toNat = 0xFFFF) : fetchBytes s = [s.byteAt 0xFFFF] := by
  simp [fetchBytes, List.range_succ, h]

/-- The host's turn changes the host's flags and samples and the free-value index, nothing else (`10_state.md` R21). -/
theorem hostTurn_same (s : State) : SameProgramState s (hostTurn s) ∧ (hostTurn s).runState = s.runState := by
  cases h : s.hostNext <;> simp [SameProgramState, SameRegsExcept, hostTurn, h] <;> intro r <;> cases r <;> rfl

@[simp] theorem byteAt_hostTurn (s : State) (x : Nat) : (hostTurn s).byteAt x = s.byteAt x := by
  cases h : s.hostNext <;> simp [hostTurn, h, State.byteAt]

@[simp] theorem pc_hostTurn (s : State) : (hostTurn s).pc = s.pc := by
  cases h : s.hostNext <;> simp [hostTurn, h]

@[simp] theorem mem_hostTurn (s : State) : (hostTurn s).mem = s.mem := by
  cases h : s.hostNext <;> simp [hostTurn, h]

@[simp] theorem fetchBytes_hostTurn (s : State) : fetchBytes (hostTurn s) = fetchBytes s := by
  simp [fetchBytes]

end Sys2Proof.Machine
end

