-- ==== Sys2Proof/Laws/Rows.lean ====
section
/-! SUPPORT. Every instruction is a row of one family: a proof over all instructions splits into these cases instead of
369. -/

namespace Sys2Proof.Machine

/-- The families of `30_encoding.md` R59 and R60, with the operands a row takes. -/
inductive FamilyRow : Instr → Prop where
  | push (p : Pair) : FamilyRow (pushInstr p)
  | pop (p : Pair) : FamilyRow (popInstr p)
  | ld (r r' : Reg) : FamilyRow (ldInstr r r')
  | ldImm (r : Reg) (n : Byte) : FamilyRow (ldImmInstr r n)
  | ldPairImm (p : DataPair) (nn : Word) : FamilyRow (ldPairImmInstr p nn)
  | ldAFromAt (p : DataPair) : FamilyRow (ldAFromAtInstr p)
  | inc (r : Reg) : FamilyRow (incInstr r)
  | dec (r : Reg) : FamilyRow (decInstr r)
  | incPair (p : DataPair) : FamilyRow (incPairInstr p)
  | xor (r : Reg) : FamilyRow (xorInstr r)
  | jrCond (cc : Cond) (e : Byte) : FamilyRow (jrCondInstr cc e)
  | rst (k : Index8) : FamilyRow (rstInstr k)
  | ext (op : ExtOp) : FamilyRow (extInstr op)
  | ldAtImmFromSP (nn : Word) : FamilyRow (.ldAtImmFromSP nn)
  | ldAtHLImm (n : Byte) : FamilyRow (.ldAtHLImm n)
  | ldSPImm (nn : Word) : FamilyRow (.ldSPImm nn)
  | ldAtHLIncFromA : FamilyRow .ldAtHLIncFromA
  | ldAtHLDecFromA : FamilyRow .ldAtHLDecFromA
  | ldAFromAtHLInc : FamilyRow .ldAFromAtHLInc
  | ldAFromAtHLDec : FamilyRow .ldAFromAtHLDec
  | ldHighImmFromA (n : Byte) : FamilyRow (.ldHighImmFromA n)
  | ldAFromHighImm (n : Byte) : FamilyRow (.ldAFromHighImm n)
  | ldHighCFromA : FamilyRow .ldHighCFromA
  | ldAFromHighC : FamilyRow .ldAFromHighC
  | rlaAcc : FamilyRow .rlaAcc
  | jr (e : Byte) : FamilyRow (.jr e)
  | call (nn : Word) : FamilyRow (.call nn)
  | prefixCB (ext : Byte) : FamilyRow (.prefixCB ext)

/-- Every instruction is a row of a family. -/
theorem familyRow : ∀ i : Instr, FamilyRow i
  | .pushBC => .push .bc
  | .popBC => .pop .bc
  | .pushDE => .push .de
  | .popDE => .pop .de
  | .pushHL => .push .hl
  | .popHL => .pop .hl
  | .pushAF => .push .af
  | .popAF => .pop .af
  | .ldBFromB => .ld .b .b
  | .ldBFromC => .ld .b .c
  | .ldBFromD => .ld .b .d
  | .ldBFromE => .ld .b .e
  | .ldBFromH => .ld .b .h
  | .ldBFromL => .ld .b .l
  | .ldBFromA => .ld .b .a
  | .ldCFromB => .ld .c .b
  | .ldCFromC => .ld .c .c
  | .ldCFromD => .ld .c .d
  | .ldCFromE => .ld .c .e
  | .ldCFromH => .ld .c .h
  | .ldCFromL => .ld .c .l
  | .ldCFromA => .ld .c .a
  | .ldDFromB => .ld .d .b
  | .ldDFromC => .ld .d .c
  | .ldDFromD => .ld .d .d
  | .ldDFromE => .ld .d .e
  | .ldDFromH => .ld .d .h
  | .ldDFromL => .ld .d .l
  | .ldDFromA => .ld .d .a
  | .ldEFromB => .ld .e .b
  | .ldEFromC => .ld .e .c
  | .ldEFromD => .ld .e .d
  | .ldEFromE => .ld .e .e
  | .ldEFromH => .ld .e .h
  | .ldEFromL => .ld .e .l
  | .ldEFromA => .ld .e .a
  | .ldHFromB => .ld .h .b
  | .ldHFromC => .ld .h .c
  | .ldHFromD => .ld .h .d
  | .ldHFromE => .ld .h .e
  | .ldHFromH => .ld .h .h
  | .ldHFromL => .ld .h .l
  | .ldHFromA => .ld .h .a
  | .ldLFromB => .ld .l .b
  | .ldLFromC => .ld .l .c
  | .ldLFromD => .ld .l .d
  | .ldLFromE => .ld .l .e
  | .ldLFromH => .ld .l .h
  | .ldLFromL => .ld .l .l
  | .ldLFromA => .ld .l .a
  | .ldAFromB => .ld .a .b
  | .ldAFromC => .ld .a .c
  | .ldAFromD => .ld .a .d
  | .ldAFromE => .ld .a .e
  | .ldAFromH => .ld .a .h
  | .ldAFromL => .ld .a .l
  | .ldAFromA => .ld .a .a
  | .ldAtImmFromSP nn => .ldAtImmFromSP nn
  | .incB => .inc .b
  | .decB => .dec .b
  | .ldBImm n => .ldImm .b n
  | .incC => .inc .c
  | .decC => .dec .c
  | .ldCImm n => .ldImm .c n
  | .incD => .inc .d
  | .decD => .dec .d
  | .ldDImm n => .ldImm .d n
  | .incE => .inc .e
  | .decE => .dec .e
  | .ldEImm n => .ldImm .e n
  | .incH => .inc .h
  | .decH => .dec .h
  | .ldHImm n => .ldImm .h n
  | .incL => .inc .l
  | .decL => .dec .l
  | .ldLImm n => .ldImm .l n
  | .incA => .inc .a
  | .decA => .dec .a
  | .ldAImm n => .ldImm .a n
  | .ldAtHLImm n => .ldAtHLImm n
  | .ldBCImm nn => .ldPairImm .bc nn
  | .ldDEImm nn => .ldPairImm .de nn
  | .ldHLImm nn => .ldPairImm .hl nn
  | .ldSPImm nn => .ldSPImm nn
  | .ldAFromAtBC => .ldAFromAt .bc
  | .ldAFromAtDE => .ldAFromAt .de
  | .ldAFromAtHL => .ldAFromAt .hl
  | .jr e => .jr e
  | .jrNZ e => .jrCond .nz e
  | .jrZ e => .jrCond .z e
  | .jrNC e => .jrCond .nc e
  | .jrC e => .jrCond .c e
  | .ldAtHLIncFromA => .ldAtHLIncFromA
  | .ldAtHLDecFromA => .ldAtHLDecFromA
  | .ldAFromAtHLInc => .ldAFromAtHLInc
  | .ldAFromAtHLDec => .ldAFromAtHLDec
  | .incBC => .incPair .bc
  | .incDE => .incPair .de
  | .incHL => .incPair .hl
  | .xorB => .xor .b
  | .xorC => .xor .c
  | .xorD => .xor .d
  | .xorE => .xor .e
  | .xorH => .xor .h
  | .xorL => .xor .l
  | .xorA => .xor .a
  | .rst00 => .rst .i0
  | .rst08 => .rst .i1
  | .rst10 => .rst .i2
  | .rst18 => .rst .i3
  | .rst20 => .rst .i4
  | .rst28 => .rst .i5
  | .rst30 => .rst .i6
  | .rst38 => .rst .i7
  | .ldHighImmFromA n => .ldHighImmFromA n
  | .ldAFromHighImm n => .ldAFromHighImm n
  | .ldHighCFromA => .ldHighCFromA
  | .ldAFromHighC => .ldAFromHighC
  | .rlaAcc => .rlaAcc
  | .call nn => .call nn
  | .prefixCB ext => .prefixCB ext
  | .rlcB => .ext (.shift .rlc (.reg .b))
  | .rlcC => .ext (.shift .rlc (.reg .c))
  | .rlcD => .ext (.shift .rlc (.reg .d))
  | .rlcE => .ext (.shift .rlc (.reg .e))
  | .rlcH => .ext (.shift .rlc (.reg .h))
  | .rlcL => .ext (.shift .rlc (.reg .l))
  | .rlcAtHL => .ext (.shift .rlc .atHL)
  | .rlcA => .ext (.shift .rlc (.reg .a))
  | .rrcB => .ext (.shift .rrc (.reg .b))
  | .rrcC => .ext (.shift .rrc (.reg .c))
  | .rrcD => .ext (.shift .rrc (.reg .d))
  | .rrcE => .ext (.shift .rrc (.reg .e))
  | .rrcH => .ext (.shift .rrc (.reg .h))
  | .rrcL => .ext (.shift .rrc (.reg .l))
  | .rrcAtHL => .ext (.shift .rrc .atHL)
  | .rrcA => .ext (.shift .rrc (.reg .a))
  | .rlB => .ext (.shift .rl (.reg .b))
  | .rlC => .ext (.shift .rl (.reg .c))
  | .rlD => .ext (.shift .rl (.reg .d))
  | .rlE => .ext (.shift .rl (.reg .e))
  | .rlH => .ext (.shift .rl (.reg .h))
  | .rlL => .ext (.shift .rl (.reg .l))
  | .rlAtHL => .ext (.shift .rl .atHL)
  | .rlA => .ext (.shift .rl (.reg .a))
  | .rrB => .ext (.shift .rr (.reg .b))
  | .rrC => .ext (.shift .rr (.reg .c))
  | .rrD => .ext (.shift .rr (.reg .d))
  | .rrE => .ext (.shift .rr (.reg .e))
  | .rrH => .ext (.shift .rr (.reg .h))
  | .rrL => .ext (.shift .rr (.reg .l))
  | .rrAtHL => .ext (.shift .rr .atHL)
  | .rrA => .ext (.shift .rr (.reg .a))
  | .slaB => .ext (.shift .sla (.reg .b))
  | .slaC => .ext (.shift .sla (.reg .c))
  | .slaD => .ext (.shift .sla (.reg .d))
  | .slaE => .ext (.shift .sla (.reg .e))
  | .slaH => .ext (.shift .sla (.reg .h))
  | .slaL => .ext (.shift .sla (.reg .l))
  | .slaAtHL => .ext (.shift .sla .atHL)
  | .slaA => .ext (.shift .sla (.reg .a))
  | .sraB => .ext (.shift .sra (.reg .b))
  | .sraC => .ext (.shift .sra (.reg .c))
  | .sraD => .ext (.shift .sra (.reg .d))
  | .sraE => .ext (.shift .sra (.reg .e))
  | .sraH => .ext (.shift .sra (.reg .h))
  | .sraL => .ext (.shift .sra (.reg .l))
  | .sraAtHL => .ext (.shift .sra .atHL)
  | .sraA => .ext (.shift .sra (.reg .a))
  | .srlB => .ext (.shift .srl (.reg .b))
  | .srlC => .ext (.shift .srl (.reg .c))
  | .srlD => .ext (.shift .srl (.reg .d))
  | .srlE => .ext (.shift .srl (.reg .e))
  | .srlH => .ext (.shift .srl (.reg .h))
  | .srlL => .ext (.shift .srl (.reg .l))
  | .srlAtHL => .ext (.shift .srl .atHL)
  | .srlA => .ext (.shift .srl (.reg .a))
  | .bit0B => .ext (.bit .i0 (.reg .b))
  | .bit0C => .ext (.bit .i0 (.reg .c))
  | .bit0D => .ext (.bit .i0 (.reg .d))
  | .bit0E => .ext (.bit .i0 (.reg .e))
  | .bit0H => .ext (.bit .i0 (.reg .h))
  | .bit0L => .ext (.bit .i0 (.reg .l))
  | .bit0AtHL => .ext (.bit .i0 .atHL)
  | .bit0A => .ext (.bit .i0 (.reg .a))
  | .bit1B => .ext (.bit .i1 (.reg .b))
  | .bit1C => .ext (.bit .i1 (.reg .c))
  | .bit1D => .ext (.bit .i1 (.reg .d))
  | .bit1E => .ext (.bit .i1 (.reg .e))
  | .bit1H => .ext (.bit .i1 (.reg .h))
  | .bit1L => .ext (.bit .i1 (.reg .l))
  | .bit1AtHL => .ext (.bit .i1 .atHL)
  | .bit1A => .ext (.bit .i1 (.reg .a))
  | .bit2B => .ext (.bit .i2 (.reg .b))
  | .bit2C => .ext (.bit .i2 (.reg .c))
  | .bit2D => .ext (.bit .i2 (.reg .d))
  | .bit2E => .ext (.bit .i2 (.reg .e))
  | .bit2H => .ext (.bit .i2 (.reg .h))
  | .bit2L => .ext (.bit .i2 (.reg .l))
  | .bit2AtHL => .ext (.bit .i2 .atHL)
  | .bit2A => .ext (.bit .i2 (.reg .a))
  | .bit3B => .ext (.bit .i3 (.reg .b))
  | .bit3C => .ext (.bit .i3 (.reg .c))
  | .bit3D => .ext (.bit .i3 (.reg .d))
  | .bit3E => .ext (.bit .i3 (.reg .e))
  | .bit3H => .ext (.bit .i3 (.reg .h))
  | .bit3L => .ext (.bit .i3 (.reg .l))
  | .bit3AtHL => .ext (.bit .i3 .atHL)
  | .bit3A => .ext (.bit .i3 (.reg .a))
  | .bit4B => .ext (.bit .i4 (.reg .b))
  | .bit4C => .ext (.bit .i4 (.reg .c))
  | .bit4D => .ext (.bit .i4 (.reg .d))
  | .bit4E => .ext (.bit .i4 (.reg .e))
  | .bit4H => .ext (.bit .i4 (.reg .h))
  | .bit4L => .ext (.bit .i4 (.reg .l))
  | .bit4AtHL => .ext (.bit .i4 .atHL)
  | .bit4A => .ext (.bit .i4 (.reg .a))
  | .bit5B => .ext (.bit .i5 (.reg .b))
  | .bit5C => .ext (.bit .i5 (.reg .c))
  | .bit5D => .ext (.bit .i5 (.reg .d))
  | .bit5E => .ext (.bit .i5 (.reg .e))
  | .bit5H => .ext (.bit .i5 (.reg .h))
  | .bit5L => .ext (.bit .i5 (.reg .l))
  | .bit5AtHL => .ext (.bit .i5 .atHL)
  | .bit5A => .ext (.bit .i5 (.reg .a))
  | .bit6B => .ext (.bit .i6 (.reg .b))
  | .bit6C => .ext (.bit .i6 (.reg .c))
  | .bit6D => .ext (.bit .i6 (.reg .d))
  | .bit6E => .ext (.bit .i6 (.reg .e))
  | .bit6H => .ext (.bit .i6 (.reg .h))
  | .bit6L => .ext (.bit .i6 (.reg .l))
  | .bit6AtHL => .ext (.bit .i6 .atHL)
  | .bit6A => .ext (.bit .i6 (.reg .a))
  | .bit7B => .ext (.bit .i7 (.reg .b))
  | .bit7C => .ext (.bit .i7 (.reg .c))
  | .bit7D => .ext (.bit .i7 (.reg .d))
  | .bit7E => .ext (.bit .i7 (.reg .e))
  | .bit7H => .ext (.bit .i7 (.reg .h))
  | .bit7L => .ext (.bit .i7 (.reg .l))
  | .bit7AtHL => .ext (.bit .i7 .atHL)
  | .bit7A => .ext (.bit .i7 (.reg .a))
  | .res0B => .ext (.res .i0 (.reg .b))
  | .res0C => .ext (.res .i0 (.reg .c))
  | .res0D => .ext (.res .i0 (.reg .d))
  | .res0E => .ext (.res .i0 (.reg .e))
  | .res0H => .ext (.res .i0 (.reg .h))
  | .res0L => .ext (.res .i0 (.reg .l))
  | .res0AtHL => .ext (.res .i0 .atHL)
  | .res0A => .ext (.res .i0 (.reg .a))
  | .res1B => .ext (.res .i1 (.reg .b))
  | .res1C => .ext (.res .i1 (.reg .c))
  | .res1D => .ext (.res .i1 (.reg .d))
  | .res1E => .ext (.res .i1 (.reg .e))
  | .res1H => .ext (.res .i1 (.reg .h))
  | .res1L => .ext (.res .i1 (.reg .l))
  | .res1AtHL => .ext (.res .i1 .atHL)
  | .res1A => .ext (.res .i1 (.reg .a))
  | .res2B => .ext (.res .i2 (.reg .b))
  | .res2C => .ext (.res .i2 (.reg .c))
  | .res2D => .ext (.res .i2 (.reg .d))
  | .res2E => .ext (.res .i2 (.reg .e))
  | .res2H => .ext (.res .i2 (.reg .h))
  | .res2L => .ext (.res .i2 (.reg .l))
  | .res2AtHL => .ext (.res .i2 .atHL)
  | .res2A => .ext (.res .i2 (.reg .a))
  | .res3B => .ext (.res .i3 (.reg .b))
  | .res3C => .ext (.res .i3 (.reg .c))
  | .res3D => .ext (.res .i3 (.reg .d))
  | .res3E => .ext (.res .i3 (.reg .e))
  | .res3H => .ext (.res .i3 (.reg .h))
  | .res3L => .ext (.res .i3 (.reg .l))
  | .res3AtHL => .ext (.res .i3 .atHL)
  | .res3A => .ext (.res .i3 (.reg .a))
  | .res4B => .ext (.res .i4 (.reg .b))
  | .res4C => .ext (.res .i4 (.reg .c))
  | .res4D => .ext (.res .i4 (.reg .d))
  | .res4E => .ext (.res .i4 (.reg .e))
  | .res4H => .ext (.res .i4 (.reg .h))
  | .res4L => .ext (.res .i4 (.reg .l))
  | .res4AtHL => .ext (.res .i4 .atHL)
  | .res4A => .ext (.res .i4 (.reg .a))
  | .res5B => .ext (.res .i5 (.reg .b))
  | .res5C => .ext (.res .i5 (.reg .c))
  | .res5D => .ext (.res .i5 (.reg .d))
  | .res5E => .ext (.res .i5 (.reg .e))
  | .res5H => .ext (.res .i5 (.reg .h))
  | .res5L => .ext (.res .i5 (.reg .l))
  | .res5AtHL => .ext (.res .i5 .atHL)
  | .res5A => .ext (.res .i5 (.reg .a))
  | .res6B => .ext (.res .i6 (.reg .b))
  | .res6C => .ext (.res .i6 (.reg .c))
  | .res6D => .ext (.res .i6 (.reg .d))
  | .res6E => .ext (.res .i6 (.reg .e))
  | .res6H => .ext (.res .i6 (.reg .h))
  | .res6L => .ext (.res .i6 (.reg .l))
  | .res6AtHL => .ext (.res .i6 .atHL)
  | .res6A => .ext (.res .i6 (.reg .a))
  | .res7B => .ext (.res .i7 (.reg .b))
  | .res7C => .ext (.res .i7 (.reg .c))
  | .res7D => .ext (.res .i7 (.reg .d))
  | .res7E => .ext (.res .i7 (.reg .e))
  | .res7H => .ext (.res .i7 (.reg .h))
  | .res7L => .ext (.res .i7 (.reg .l))
  | .res7AtHL => .ext (.res .i7 .atHL)
  | .res7A => .ext (.res .i7 (.reg .a))
  | .set0B => .ext (.set .i0 (.reg .b))
  | .set0C => .ext (.set .i0 (.reg .c))
  | .set0D => .ext (.set .i0 (.reg .d))
  | .set0E => .ext (.set .i0 (.reg .e))
  | .set0H => .ext (.set .i0 (.reg .h))
  | .set0L => .ext (.set .i0 (.reg .l))
  | .set0AtHL => .ext (.set .i0 .atHL)
  | .set0A => .ext (.set .i0 (.reg .a))
  | .set1B => .ext (.set .i1 (.reg .b))
  | .set1C => .ext (.set .i1 (.reg .c))
  | .set1D => .ext (.set .i1 (.reg .d))
  | .set1E => .ext (.set .i1 (.reg .e))
  | .set1H => .ext (.set .i1 (.reg .h))
  | .set1L => .ext (.set .i1 (.reg .l))
  | .set1AtHL => .ext (.set .i1 .atHL)
  | .set1A => .ext (.set .i1 (.reg .a))
  | .set2B => .ext (.set .i2 (.reg .b))
  | .set2C => .ext (.set .i2 (.reg .c))
  | .set2D => .ext (.set .i2 (.reg .d))
  | .set2E => .ext (.set .i2 (.reg .e))
  | .set2H => .ext (.set .i2 (.reg .h))
  | .set2L => .ext (.set .i2 (.reg .l))
  | .set2AtHL => .ext (.set .i2 .atHL)
  | .set2A => .ext (.set .i2 (.reg .a))
  | .set3B => .ext (.set .i3 (.reg .b))
  | .set3C => .ext (.set .i3 (.reg .c))
  | .set3D => .ext (.set .i3 (.reg .d))
  | .set3E => .ext (.set .i3 (.reg .e))
  | .set3H => .ext (.set .i3 (.reg .h))
  | .set3L => .ext (.set .i3 (.reg .l))
  | .set3AtHL => .ext (.set .i3 .atHL)
  | .set3A => .ext (.set .i3 (.reg .a))
  | .set4B => .ext (.set .i4 (.reg .b))
  | .set4C => .ext (.set .i4 (.reg .c))
  | .set4D => .ext (.set .i4 (.reg .d))
  | .set4E => .ext (.set .i4 (.reg .e))
  | .set4H => .ext (.set .i4 (.reg .h))
  | .set4L => .ext (.set .i4 (.reg .l))
  | .set4AtHL => .ext (.set .i4 .atHL)
  | .set4A => .ext (.set .i4 (.reg .a))
  | .set5B => .ext (.set .i5 (.reg .b))
  | .set5C => .ext (.set .i5 (.reg .c))
  | .set5D => .ext (.set .i5 (.reg .d))
  | .set5E => .ext (.set .i5 (.reg .e))
  | .set5H => .ext (.set .i5 (.reg .h))
  | .set5L => .ext (.set .i5 (.reg .l))
  | .set5AtHL => .ext (.set .i5 .atHL)
  | .set5A => .ext (.set .i5 (.reg .a))
  | .set6B => .ext (.set .i6 (.reg .b))
  | .set6C => .ext (.set .i6 (.reg .c))
  | .set6D => .ext (.set .i6 (.reg .d))
  | .set6E => .ext (.set .i6 (.reg .e))
  | .set6H => .ext (.set .i6 (.reg .h))
  | .set6L => .ext (.set .i6 (.reg .l))
  | .set6AtHL => .ext (.set .i6 .atHL)
  | .set6A => .ext (.set .i6 (.reg .a))
  | .set7B => .ext (.set .i7 (.reg .b))
  | .set7C => .ext (.set .i7 (.reg .c))
  | .set7D => .ext (.set .i7 (.reg .d))
  | .set7E => .ext (.set .i7 (.reg .e))
  | .set7H => .ext (.set .i7 (.reg .h))
  | .set7L => .ext (.set .i7 (.reg .l))
  | .set7AtHL => .ext (.set .i7 .atHL)
  | .set7A => .ext (.set .i7 (.reg .a))

end Sys2Proof.Machine
end

