-- ==== Sys2Proof/Laws/Completes.lean ====
section
/-! SUPPORT. An instruction never stops outside the run states of the spec: `exec` and the fetch before it always answer
a next state (`60_exceptions.md` R160, log entry 1). -/

namespace Sys2Proof.Machine

theorem withRead_answers {addr : Int} {s : State} {k : Byte → Out} (h : ∀ v, ∃ t, k v = .next t) :
    ∃ t, withRead addr s k = .next t := by
  unfold withRead
  split
  · exact h _
  · exact ⟨_, rfl⟩

theorem withWrite_answers {addr : Int} {v : Byte} {s : State} {k : State → Out} (h : ∀ u, ∃ t, k u = .next t) :
    ∃ t, withWrite addr v s k = .next t := by
  unfold withWrite
  split
  · exact h _
  · exact ⟨_, rfl⟩

theorem push16_answers {v : Word} {s : State} {k : State → Out} (h : ∀ u, ∃ t, k u = .next t) :
    ∃ t, push16 v s k = .next t :=
  withWrite_answers fun _ => withWrite_answers fun _ => h _

theorem pop16_answers {s : State} {k : Word → State → Out} (h : ∀ v u, ∃ t, k v u = .next t) : ∃ t, pop16 s k = .next t :=
  withRead_answers fun _ => withRead_answers fun _ => h _ _

theorem putOperand_answers {x : Operand8} {v : Byte} {s : State} {k : State → Out} (h : ∀ u, ∃ t, k u = .next t) :
    ∃ t, putOperand x v s k = .next t := by
  cases x with
  | reg r => exact h _
  | atHL => exact withWrite_answers h

theorem runExt_answers (op : ExtOp) (s : State) : ∃ t, runExt op s = .next t := by
  cases op with
  | shift o x =>
    simp only [runExt, runShift, withOperand_eq]
    exact putOperand_answers fun _ => ⟨_, rfl⟩
  | bit b x =>
    simp only [runExt, runBit, withOperand_eq]
    exact ⟨_, rfl⟩
  | res b x =>
    simp only [runExt, runRes, withOperand_eq]
    exact putOperand_answers fun _ => ⟨_, rfl⟩
  | set b x =>
    simp only [runExt, runSet, withOperand_eq]
    exact putOperand_answers fun _ => ⟨_, rfl⟩

/-- Every instruction answers a next state, FAULTED or not. -/
theorem exec_answers (i : Instr) (s : State) : ∃ t, exec i s = .next t := by
  cases familyRow i with
  | push p => rw [exec_pushInstr]; exact push16_answers fun _ => ⟨_, rfl⟩
  | pop p => rw [exec_popInstr]; exact pop16_answers fun _ _ => ⟨_, rfl⟩
  | ld r r' => rw [exec_ldInstr]; exact ⟨_, rfl⟩
  | ldImm r n => rw [exec_ldImmInstr]; exact ⟨_, rfl⟩
  | ldPairImm p nn => rw [exec_ldPairImmInstr]; exact ⟨_, rfl⟩
  | ldAFromAt p => rw [exec_ldAFromAtInstr]; exact withRead_answers fun _ => ⟨_, rfl⟩
  | inc r => rw [exec_incInstr]; exact ⟨_, rfl⟩
  | dec r => rw [exec_decInstr]; exact ⟨_, rfl⟩
  | incPair p => rw [exec_incPairInstr]; exact ⟨_, rfl⟩
  | xor r => rw [exec_xorInstr]; exact ⟨_, rfl⟩
  | jrCond cc e => rw [exec_jrCondInstr, jumpIf]; split <;> exact ⟨_, rfl⟩
  | rst k => rw [exec_rstInstr]; exact push16_answers fun _ => ⟨_, rfl⟩
  | ext op => rw [exec_extInstr]; exact runExt_answers _ _
  | prefixCB e => rw [exec_prefixCB]; split; exacts [runExt_answers _ _, ⟨_, rfl⟩]
  | ldAtImmFromSP nn =>
    rw [exec_ldAtImmFromSP]
    exact withWrite_answers fun _ => withWrite_answers fun _ => ⟨_, rfl⟩
  | ldAtHLImm n => rw [exec_ldAtHLImm]; exact withWrite_answers fun _ => ⟨_, rfl⟩
  | ldSPImm nn => exact ⟨_, rfl⟩
  | ldAtHLIncFromA => rw [exec_ldAtHLIncFromA]; exact withWrite_answers fun _ => ⟨_, rfl⟩
  | ldAtHLDecFromA => rw [exec_ldAtHLDecFromA]; exact withWrite_answers fun _ => ⟨_, rfl⟩
  | ldAFromAtHLInc => rw [exec_ldAFromAtHLInc]; exact withRead_answers fun _ => ⟨_, rfl⟩
  | ldAFromAtHLDec => rw [exec_ldAFromAtHLDec]; exact withRead_answers fun _ => ⟨_, rfl⟩
  | ldHighImmFromA n => rw [exec_ldHighImmFromA]; exact withWrite_answers fun _ => ⟨_, rfl⟩
  | ldAFromHighImm n => rw [exec_ldAFromHighImm]; exact withRead_answers fun _ => ⟨_, rfl⟩
  | ldHighCFromA => rw [exec_ldHighCFromA]; exact withWrite_answers fun _ => ⟨_, rfl⟩
  | ldAFromHighC => rw [exec_ldAFromHighC]; exact withRead_answers fun _ => ⟨_, rfl⟩
  | rlaAcc => exact ⟨_, rfl⟩
  | jr e => exact ⟨_, rfl⟩
  | call nn => rw [exec_call]; exact push16_answers fun _ => ⟨_, rfl⟩

/-- Fetch, decode and execute answer a next state. -/
theorem fetchThen_answers (s : State) : ∃ t, fetchThen exec s = .next t := by
  unfold fetchThen
  split
  · exact exec_answers _ _
  · exact ⟨_, rfl⟩

end Sys2Proof.Machine
end

