-- ==== Sys2Proof/Laws/Decode.lean ====
section
/-! SUPPORT. What the two opcode tables hold, said once for every byte: the encoding of each entry, and that the values
without an entry are the listed ones. -/

namespace Sys2Proof.Machine

/-- What the primary table holds for an opcode (`30_encoding.md` R50, R57 to R59, R62). -/
def PrimaryRow (op : Byte) : Option Entry → Prop
  | none => undefinedPrimary op = true
  | some (.op i) => encode i = [op] ∧ WellFormed i = true ∧ undefinedPrimary op = false
  | some (.opN8 f) => (∀ n, encode (f n) = [op, n] ∧ WellFormed (f n) = true) ∧ undefinedPrimary op = false
  | some (.opE8 f) => (∀ e, encode (f e) = [op, e] ∧ WellFormed (f e) = true) ∧ undefinedPrimary op = false
  | some (.opN16 f) =>
    (∀ nn, encode (f nn) = [op, lowByte nn, highByte nn] ∧ WellFormed (f nn) = true) ∧ undefinedPrimary op = false
  | some .cbOp => op = 0xCB ∧ undefinedPrimary op = false

/-- Every entry of the primary table is encoded by its opcode, and an opcode has none exactly when it is listed as
undefined. -/
theorem primaryRow (op : Byte) : PrimaryRow op (primaryEntry op) := by
  have h : ∃ x y : Nat, x < 16 ∧ y < 16 ∧ op = BitVec.ofNat 8 (16 * x + y) :=
    ⟨op.toNat / 16, op.toNat % 16, by omega, by omega, by rw [Nat.div_add_mod]; simp⟩
  obtain ⟨x, y, hx, hy, rfl⟩ := h
  interval_cases x <;> interval_cases y <;>
    first | exact rfl | exact ⟨rfl, rfl, rfl⟩ | exact ⟨fun _ => ⟨rfl, rfl⟩, rfl⟩ | exact ⟨rfl, rfl⟩

/-- Every extended byte is the second byte of the row it selects; the prefix row itself where there is no entry. -/
theorem extRow : ∀ ext : Byte, encode (extInstrOfByte ext) = [0xCB, ext] ∧ WellFormed (extInstrOfByte ext) = true ∧
    (extInstrOfByte ext = .prefixCB ext ↔ 0x30 ≤ ext.toNat ∧ ext.toNat ≤ 0x37) := by decide

/-- Why a decode fails: an undefined first byte, or the byte right after the last one given is missing. -/
theorem decode_error {bytes : List Byte} {err : DecodeError} (h : decode bytes = .error err) :
    (∃ op rest, bytes = op :: rest ∧ undefinedPrimary op = true ∧ err = .unimplementedOpcode op) ∨
    (bytes.length < 3 ∧ err = .missingByte bytes.length) := by
  cases bytes with
  | nil =>
    cases h
    exact .inr ⟨by decide, rfl⟩
  | cons op rest =>
    have row := primaryRow op
    simp only [decode] at h
    split at h
    case h_1 he =>
      rw [he] at row
      cases h
      exact .inl ⟨op, _, rfl, row, rfl⟩
    all_goals first
      | cases h
        exact .inr ⟨by simp, rfl⟩
      | cases h

/-- A fetch sees three bytes, or as many as there are up to the top of memory. -/
theorem length_fetchBytes (s : State) :
    (fetchBytes s).length = 3 ∧ s.pc.toNat + 2 ≤ 0xFFFF ∨ s.pc.toNat + (fetchBytes s).length = 0x10000 := by
  have hlt := s.pc.isLt
  by_cases h : s.pc.toNat + 2 ≤ 0xFFFF
  · exact .inl ⟨by rw [fetchBytes_of_low h]; rfl, h⟩
  · right
    by_cases h' : s.pc.toNat = 0xFFFE
    · rw [fetchBytes_of_fffe h', h']; rfl
    · have h'' : s.pc.toNat = 0xFFFF := by omega
      rw [fetchBytes_of_ffff h'', h'']; rfl

/-- The byte a fetch sees at offset k is the byte of memory there. -/
theorem getElem?_fetchBytes {s : State} {k : Nat} (hk : k < 3) (h : s.pc.toNat + k ≤ 0xFFFF) :
    (fetchBytes s)[k]? = some (s.byteAt (s.pc.toNat + k)) := by
  by_cases h2 : s.pc.toNat + 2 ≤ 0xFFFF
  · rw [fetchBytes_of_low h2]
    interval_cases k <;> rfl
  · by_cases h1 : s.pc.toNat = 0xFFFE
    · rw [fetchBytes_of_fffe h1, h1]
      have hk' : k < 2 := by omega
      interval_cases k <;> rfl
    · have h0 : s.pc.toNat = 0xFFFF := by have := s.pc.isLt; omega
      have hk' : k = 0 := by omega
      rw [fetchBytes_of_ffff h0, h0, hk']
      rfl

/-- The first byte a fetch sees is the byte at pc. -/
theorem fetchBytes_cons (s : State) : ∃ rest, fetchBytes s = s.byteAt s.pc.toNat :: rest := by
  have hlt := s.pc.isLt
  by_cases h : s.pc.toNat + 2 ≤ 0xFFFF
  · exact ⟨_, fetchBytes_of_low h⟩
  · by_cases h' : s.pc.toNat = 0xFFFE
    · rw [fetchBytes_of_fffe h', h']; exact ⟨_, rfl⟩
    · have h'' : s.pc.toNat = 0xFFFF := by omega
      rw [fetchBytes_of_ffff h'', h'']; exact ⟨_, rfl⟩

end Sys2Proof.Machine
end

