-- ==== Sys2Proof/Laws/Effects.lean ====
section
/-! SUPPORT. Everything an instruction can do, said once: if `exec` answers a next state, it is one of these. A proof over
all instructions splits into these cases instead of unfolding `exec`. -/

namespace Sys2Proof.Machine

/-- The state after both bytes of a push were stored and SP moved (`41_stack.md` R82). -/
def pushed (s : State) (v : Word) : State :=
  ((s.store (addrOf s.sp - 1).toNat (highByte v)).store (addrOf s.sp - 2).toNat (lowByte v)).setSp (s.sp - 2)

/-- The state in which a fault was raised (`60_exceptions.md` R160). -/
def faultedAt (s : State) (k : FaultKind) : State := { s with runState := .faulted ⟨k, s.pc⟩ }

/-- The state after the operand x of an extended operation was written. -/
def operandPut (x : Operand8) (v : Byte) (s : State) : State :=
  match x with
  | .reg r => s.setReg r v
  | .atHL => s.store (s.pair .hl).toNat v

/-- The state an instruction that pushes the word v leaves, by where it goes on to. -/
inductive PushEffect (s : State) (v : Word) (go : State → State) : State → Prop where
  | ok (h : 2 ≤ s.sp.toNat) : PushEffect s v go (go (pushed s v))
  | zero (h : s.sp.toNat = 0) : PushEffect s v go (faultedAt s (.addressOutOfRange (-1)))
  | one (h : s.sp.toNat = 1) : PushEffect s v go (faultedAt (s.store 0 (highByte v)) (.addressOutOfRange (-1)))

/-- The next state of each instruction. -/
inductive ExecEffect (s : State) : Instr → State → Prop where
  | push (p : Pair) {t : State} (h : PushEffect s (s.pair p) (fun u => u.advance 1) t) : ExecEffect s (pushInstr p) t
  | pop (p : Pair) (h : s.sp.toNat < 0xFFFF) :
      ExecEffect s (popInstr p)
        (((s.setSp (s.sp + 2)).setPair p (wordOf (s.byteAt (s.sp.toNat + 1)) (s.byteAt s.sp.toNat))).advance 1)
  | popTop (p : Pair) (h : s.sp.toNat = 0xFFFF) : ExecEffect s (popInstr p) (faultedAt s (.addressOutOfRange 0x10000))
  | ld (r r' : Reg) : ExecEffect s (ldInstr r r') ((s.setReg r (s.reg r')).advance 1)
  | ldImm (r : Reg) (n : Byte) : ExecEffect s (ldImmInstr r n) ((s.setReg r n).advance 2)
  | ldPairImm (p : DataPair) (nn : Word) : ExecEffect s (ldPairImmInstr p nn) ((s.setPair (pairOf p) nn).advance 3)
  | ldSPImm (nn : Word) : ExecEffect s (.ldSPImm nn) ((s.setSp nn).advance 3)
  | ldAFromAt (p : DataPair) :
      ExecEffect s (ldAFromAtInstr p) ((s.setReg .a (s.byteAt (s.pair (pairOf p)).toNat)).advance 1)
  | ldAtImmFromSP (nn : Word) (h : nn.toNat < 0xFFFF) :
      ExecEffect s (.ldAtImmFromSP nn)
        (((s.store nn.toNat (lowByte s.sp)).store (nn.toNat + 1) (highByte s.sp)).advance 3)
  | ldAtImmFromSPTop (nn : Word) (h : nn.toNat = 0xFFFF) :
      ExecEffect s (.ldAtImmFromSP nn) (faultedAt (s.store nn.toNat (lowByte s.sp)) (.addressOutOfRange 0x10000))
  | ldAtHLImm (n : Byte) : ExecEffect s (.ldAtHLImm n) ((s.store (s.pair .hl).toNat n).advance 2)
  | ldAtHLIncFromA :
      ExecEffect s .ldAtHLIncFromA (((s.store (s.pair .hl).toNat s.a).setPair .hl (s.pair .hl + 1)).advance 1)
  | ldAtHLDecFromA :
      ExecEffect s .ldAtHLDecFromA (((s.store (s.pair .hl).toNat s.a).setPair .hl (s.pair .hl + -1)).advance 1)
  | ldAFromAtHLInc :
      ExecEffect s .ldAFromAtHLInc
        (((s.setReg .a (s.byteAt (s.pair .hl).toNat)).setPair .hl (s.pair .hl + 1)).advance 1)
  | ldAFromAtHLDec :
      ExecEffect s .ldAFromAtHLDec
        (((s.setReg .a (s.byteAt (s.pair .hl).toNat)).setPair .hl (s.pair .hl + -1)).advance 1)
  | ldHighImmFromA (n : Byte) : ExecEffect s (.ldHighImmFromA n) ((s.store (highAddr n).toNat s.a).advance 2)
  | ldHighCFromA : ExecEffect s .ldHighCFromA ((s.store (highAddr s.c).toNat s.a).advance 1)
  | ldAFromHighImm (n : Byte) :
      ExecEffect s (.ldAFromHighImm n) ((s.setReg .a (s.byteAt (highAddr n).toNat)).advance 2)
  | ldAFromHighC : ExecEffect s .ldAFromHighC ((s.setReg .a (s.byteAt (highAddr s.c).toNat)).advance 1)
  | inc (r : Reg) :
      ExecEffect s (incInstr r)
        (((s.setReg r (s.reg r + 1)).setZNH (isZero (s.reg r + 1)) false (halfCarryInc (s.reg r) (s.reg r + 1))).advance 1)
  | dec (r : Reg) :
      ExecEffect s (decInstr r)
        (((s.setReg r (s.reg r - 1)).setZNH (isZero (s.reg r - 1)) true (halfBorrowDec (s.reg r) (s.reg r - 1))).advance 1)
  | incPair (p : DataPair) :
      ExecEffect s (incPairInstr p) ((s.setPair (pairOf p) (s.pair (pairOf p) + 1)).advance 1)
  | xor (r : Reg) :
      ExecEffect s (xorInstr r)
        (((s.setReg .a (s.a ^^^ s.reg r)).setZNHC (isZero (s.a ^^^ s.reg r)) false false false).advance 1)
  | rlaAcc :
      ExecEffect s .rlaAcc
        (((s.setReg .a (shiftLeftIn s.a s.flagC)).setZNHC false false false (s.a.getLsbD 7)).advance 1)
  | jr (e : Byte) : ExecEffect s (.jr e) (s.setPc (s.pc + 2 + offsetOf e))
  | jrTaken (cc : Cond) (e : Byte) (h : condHolds s cc = true) :
      ExecEffect s (jrCondInstr cc e) (s.setPc (s.pc + 2 + offsetOf e))
  | jrNotTaken (cc : Cond) (e : Byte) (h : condHolds s cc = false) : ExecEffect s (jrCondInstr cc e) (s.advance 2)
  | rst (k : Index8) {t : State} (h : PushEffect s (rstPushed s) (fun u => u.setPc (rstTarget k)) t) :
      ExecEffect s (rstInstr k) t
  | call (nn : Word) {t : State} (h : PushEffect s (s.pc + 3) (fun u => u.setPc nn) t) : ExecEffect s (.call nn) t
  | prefixUndefined (ext : Byte) (h : extOpOfByte ext = none) :
      ExecEffect s (.prefixCB ext) (faultedAt s (.unimplementedOpcode ext))
  | shift {i : Instr} (op : ShiftOp) (x : Operand8)
      (h : i = shiftInstr op x ∨ ∃ ext, i = .prefixCB ext ∧ extOpOfByte ext = some (.shift op x)) :
      ExecEffect s i
        (((operandPut x (shiftResult op (operandValue x s) s.flagC) s).setZNHC
          (isZero (shiftResult op (operandValue x s) s.flagC)) false false (shiftOut op (operandValue x s))).advance 2)
  | bit {i : Instr} (b : Index8) (x : Operand8)
      (h : i = bitInstr b x ∨ ∃ ext, i = .prefixCB ext ∧ extOpOfByte ext = some (.bit b x)) :
      ExecEffect s i ((s.setZNH (!(operandValue x s).getLsbD (indexNat b)) false true).advance 2)
  | res {i : Instr} (b : Index8) (x : Operand8)
      (h : i = resInstr b x ∨ ∃ ext, i = .prefixCB ext ∧ extOpOfByte ext = some (.res b x)) :
      ExecEffect s i ((operandPut x (putBit (operandValue x s) (indexNat b) false) s).advance 2)
  | set {i : Instr} (b : Index8) (x : Operand8)
      (h : i = setInstr b x ∨ ∃ ext, i = .prefixCB ext ∧ extOpOfByte ext = some (.set b x)) :
      ExecEffect s i ((operandPut x (putBit (operandValue x s) (indexNat b) true) s).advance 2)

theorem putOperand_eq (x : Operand8) (v : Byte) (s : State) (k : State → Out) :
    putOperand x v s k = k (operandPut x v s) := by
  cases x with
  | reg r => rfl
  | atHL => exact putOperand_atHL v s k

theorem pushEffect_of_next {s t : State} {v : Word} {go : State → State}
    (h : push16 v s (fun u => .next (go u)) = .next t) : PushEffect s v go t := by
  rcases push16_next h with ⟨h2, h⟩ | ⟨h0, h⟩ | ⟨h1, h⟩
  · rw [← next_inj.mp h]
    exact .ok h2
  · rw [h]
    exact .zero h0
  · rw [h]
    exact .one h1

theorem extEffect_of_next {s t : State} {i : Instr} {op : ExtOp}
    (hi : i = extInstr op ∨ ∃ ext, i = .prefixCB ext ∧ extOpOfByte ext = some op) (h : runExt op s = .next t) :
    ExecEffect s i t := by
  cases op with
  | shift o x =>
    simp only [runExt, runShift, withOperand_eq, putOperand_eq] at h
    rw [← next_inj.mp h]
    exact .shift o x hi
  | bit b x =>
    simp only [runExt, runBit, withOperand_eq] at h
    rw [← next_inj.mp h]
    exact .bit b x hi
  | res b x =>
    simp only [runExt, runRes, withOperand_eq, putOperand_eq] at h
    rw [← next_inj.mp h]
    exact .res b x hi
  | set b x =>
    simp only [runExt, runSet, withOperand_eq, putOperand_eq] at h
    rw [← next_inj.mp h]
    exact .set b x hi

/-- Everything an instruction can do. -/
theorem execEffect {i : Instr} {s t : State} (h : exec i s = .next t) : ExecEffect s i t := by
  cases familyRow i with
  | push p =>
    rw [exec_pushInstr] at h
    exact .push p (pushEffect_of_next h)
  | pop p =>
    rw [exec_popInstr] at h
    rcases pop16_next h with ⟨hr, h⟩ | ⟨ht, h⟩
    · rw [← next_inj.mp h]
      exact .pop p hr
    · rw [h]
      exact .popTop p ht
  | ld r r' =>
    rw [exec_ldInstr] at h
    rw [← next_inj.mp h]
    exact .ld r r'
  | ldImm r n =>
    rw [exec_ldImmInstr] at h
    rw [← next_inj.mp h]
    exact .ldImm r n
  | ldPairImm p nn =>
    rw [exec_ldPairImmInstr] at h
    rw [← next_inj.mp h]
    exact .ldPairImm p nn
  | ldAFromAt p =>
    rw [exec_ldAFromAtInstr, loadA, withRead_addrOf] at h
    rw [← next_inj.mp h]
    exact .ldAFromAt p
  | inc r =>
    rw [exec_incInstr] at h
    rw [← next_inj.mp h]
    exact .inc r
  | dec r =>
    rw [exec_decInstr] at h
    rw [← next_inj.mp h]
    exact .dec r
  | incPair p =>
    rw [exec_incPairInstr] at h
    rw [← next_inj.mp h]
    exact .incPair p
  | xor r =>
    rw [exec_xorInstr] at h
    rw [← next_inj.mp h]
    exact .xor r
  | jrCond cc e =>
    rw [exec_jrCondInstr, jumpIf] at h
    cases hc : condHolds s cc
    · rw [hc, if_neg (by decide)] at h
      rw [← next_inj.mp h]
      exact .jrNotTaken cc e hc
    · rw [hc, if_pos rfl] at h
      rw [← next_inj.mp h]
      exact .jrTaken cc e hc
  | rst k =>
    rw [exec_rstInstr] at h
    exact .rst k (pushEffect_of_next h)
  | ext op =>
    rw [exec_extInstr] at h
    exact extEffect_of_next (.inl rfl) h
  | ldAtImmFromSP nn =>
    change execLdAtImmFromSP nn s = _ at h
    rw [execLdAtImmFromSP, withWrite_addrOf] at h
    have hlt := nn.isLt
    rcases withWrite_next h with ⟨hr, h⟩ | ⟨hr, h⟩
    · rw [inRange_iff] at hr
      have e : (addrOf nn + 1).toNat = nn.toNat + 1 := by simp only [addrOf]; omega
      rw [e] at h
      rw [← next_inj.mp h]
      exact .ldAtImmFromSP nn (by simp only [addrOf] at hr; omega)
    · have hn : ¬ (0 ≤ addrOf nn + 1 ∧ addrOf nn + 1 ≤ 0xFFFF) := by
        intro hc
        rw [← inRange_iff] at hc
        rw [hc] at hr
        exact absurd hr (by decide)
      have ht : nn.toNat = 0xFFFF := by simp only [addrOf] at hn; omega
      have e : addrOf nn + 1 = 0x10000 := by simp only [addrOf]; omega
      rw [h, e]
      exact .ldAtImmFromSPTop nn ht
  | ldAtHLImm n =>
    change execLdAtHLImm n s = _ at h
    rw [execLdAtHLImm, withWrite_addrOf] at h
    rw [← next_inj.mp h]
    exact .ldAtHLImm n
  | ldSPImm nn =>
    rw [← next_inj.mp h]
    exact .ldSPImm nn
  | ldAtHLIncFromA =>
    change execLdAtHLIncFromA s = _ at h
    rw [execLdAtHLIncFromA, storeAStepHL, withWrite_addrOf] at h
    rw [← next_inj.mp h]
    exact .ldAtHLIncFromA
  | ldAtHLDecFromA =>
    change execLdAtHLDecFromA s = _ at h
    rw [execLdAtHLDecFromA, storeAStepHL, withWrite_addrOf] at h
    rw [← next_inj.mp h]
    exact .ldAtHLDecFromA
  | ldAFromAtHLInc =>
    change execLdAFromAtHLInc s = _ at h
    rw [execLdAFromAtHLInc, loadAStepHL, withRead_addrOf] at h
    rw [← next_inj.mp h]
    exact .ldAFromAtHLInc
  | ldAFromAtHLDec =>
    change execLdAFromAtHLDec s = _ at h
    rw [execLdAFromAtHLDec, loadAStepHL, withRead_addrOf] at h
    rw [← next_inj.mp h]
    exact .ldAFromAtHLDec
  | ldHighImmFromA n =>
    change execLdHighImmFromA n s = _ at h
    rw [execLdHighImmFromA, storeA, withWrite_highAddr] at h
    rw [← next_inj.mp h]
    exact .ldHighImmFromA n
  | ldAFromHighImm n =>
    change execLdAFromHighImm n s = _ at h
    rw [execLdAFromHighImm, loadA, withRead_highAddr] at h
    rw [← next_inj.mp h]
    exact .ldAFromHighImm n
  | ldHighCFromA =>
    change execLdHighCFromA s = _ at h
    rw [execLdHighCFromA, storeA, withWrite_highAddr] at h
    rw [← next_inj.mp h]
    exact .ldHighCFromA
  | ldAFromHighC =>
    change execLdAFromHighC s = _ at h
    rw [execLdAFromHighC, loadA, withRead_highAddr] at h
    rw [← next_inj.mp h]
    exact .ldAFromHighC
  | rlaAcc =>
    rw [← next_inj.mp h]
    exact .rlaAcc
  | jr e =>
    rw [← next_inj.mp h]
    exact .jr e
  | call nn => exact .call nn (pushEffect_of_next h)
  | prefixCB ext =>
    rw [exec_prefixCB] at h
    cases he : extOpOfByte ext with
    | none =>
      rw [he] at h
      rw [← next_inj.mp h]
      exact .prefixUndefined ext he
    | some op =>
      rw [he] at h
      exact extEffect_of_next (.inr ⟨ext, rfl, he⟩) h

/-! ## What the named states of these cases leave in each field -/

@[simp] theorem f_pushed (s : State) (v : Word) : (pushed s v).f = s.f := rfl
@[simp] theorem pc_pushed (s : State) (v : Word) : (pushed s v).pc = s.pc := rfl
@[simp] theorem sp_pushed (s : State) (v : Word) : (pushed s v).sp = s.sp - 2 := rfl
@[simp] theorem runState_pushed (s : State) (v : Word) : (pushed s v).runState = s.runState := rfl
@[simp] theorem runFlag_pushed (s : State) (v : Word) : (pushed s v).runFlag = s.runFlag := rfl
@[simp] theorem stepAck_pushed (s : State) (v : Word) : (pushed s v).stepAck = s.stepAck := rfl
@[simp] theorem hostNext_pushed (s : State) (v : Word) : (pushed s v).hostNext = s.hostNext := rfl
@[simp] theorem rstPushDelta_pushed (s : State) (v : Word) : (pushed s v).rstPushDelta = s.rstPushDelta := rfl
@[simp] theorem freeIndex_pushed (s : State) (v : Word) : (pushed s v).freeIndex = s.freeIndex := rfl
@[simp] theorem reg_pushed (s : State) (v : Word) (r : Reg) : (pushed s v).reg r = s.reg r := by simp [pushed]

@[simp] theorem f_faultedAt (s : State) (k : FaultKind) : (faultedAt s k).f = s.f := rfl
@[simp] theorem pc_faultedAt (s : State) (k : FaultKind) : (faultedAt s k).pc = s.pc := rfl
@[simp] theorem sp_faultedAt (s : State) (k : FaultKind) : (faultedAt s k).sp = s.sp := rfl
@[simp] theorem mem_faultedAt (s : State) (k : FaultKind) : (faultedAt s k).mem = s.mem := rfl
@[simp] theorem runState_faultedAt (s : State) (k : FaultKind) : (faultedAt s k).runState = .faulted ⟨k, s.pc⟩ := rfl
@[simp] theorem runFlag_faultedAt (s : State) (k : FaultKind) : (faultedAt s k).runFlag = s.runFlag := rfl
@[simp] theorem stepAck_faultedAt (s : State) (k : FaultKind) : (faultedAt s k).stepAck = s.stepAck := rfl
@[simp] theorem hostNext_faultedAt (s : State) (k : FaultKind) : (faultedAt s k).hostNext = s.hostNext := rfl
@[simp] theorem rstPushDelta_faultedAt (s : State) (k : FaultKind) : (faultedAt s k).rstPushDelta = s.rstPushDelta := rfl
@[simp] theorem freeIndex_faultedAt (s : State) (k : FaultKind) : (faultedAt s k).freeIndex = s.freeIndex := rfl
@[simp] theorem reg_faultedAt (s : State) (k : FaultKind) (r : Reg) : (faultedAt s k).reg r = s.reg r := by cases r <;> rfl
@[simp] theorem byteAt_faultedAt (s : State) (k : FaultKind) (x : Nat) : (faultedAt s k).byteAt x = s.byteAt x := rfl

@[simp] theorem f_operandPut (x : Operand8) (v : Byte) (s : State) : (operandPut x v s).f = s.f := by
  cases x <;> simp [operandPut]
@[simp] theorem pc_operandPut (x : Operand8) (v : Byte) (s : State) : (operandPut x v s).pc = s.pc := by
  cases x <;> simp [operandPut]
@[simp] theorem sp_operandPut (x : Operand8) (v : Byte) (s : State) : (operandPut x v s).sp = s.sp := by
  cases x <;> simp [operandPut]
@[simp] theorem runState_operandPut (x : Operand8) (v : Byte) (s : State) : (operandPut x v s).runState = s.runState := by
  cases x <;> simp [operandPut]
@[simp] theorem runFlag_operandPut (x : Operand8) (v : Byte) (s : State) : (operandPut x v s).runFlag = s.runFlag := by
  cases x <;> simp [operandPut]
@[simp] theorem stepAck_operandPut (x : Operand8) (v : Byte) (s : State) : (operandPut x v s).stepAck = s.stepAck := by
  cases x <;> simp [operandPut]
@[simp] theorem hostNext_operandPut (x : Operand8) (v : Byte) (s : State) : (operandPut x v s).hostNext = s.hostNext := by
  cases x <;> simp [operandPut]
@[simp] theorem rstPushDelta_operandPut (x : Operand8) (v : Byte) (s : State) :
    (operandPut x v s).rstPushDelta = s.rstPushDelta := by
  cases x <;> simp [operandPut]
@[simp] theorem freeIndex_operandPut (x : Operand8) (v : Byte) (s : State) :
    (operandPut x v s).freeIndex = s.freeIndex := by
  cases x <;> simp [operandPut]
@[simp] theorem byteAt_operandPut_reg (r : Reg) (v : Byte) (s : State) (y : Nat) :
    (operandPut (.reg r) v s).byteAt y = s.byteAt y := by
  simp [operandPut]

end Sys2Proof.Machine
end

