-- ==== Sys2Proof/Laws/PerInstr.lean ====
section
/-! SUPPORT. A statement about every instruction as syntax, one lemma per constructor: the length of its encoding. -/

namespace Sys2Proof.Laws.EncodedLength

/-- "The length is a function of the primary opcode alone", 1, 2 or 3 bytes (`30_encoding.md` R50): the encoding of an
instruction has the length that its first byte gives. -/
def Statement (i : Instr) : Prop :=
  (encode i).length = primaryLength ((encode i).headD 0) ∧ 1 ≤ (encode i).length ∧ (encode i).length ≤ 3

theorem of_one {i : Instr} {op : Byte} (h : encode i = [op]) (hl : primaryLength op = 1) : Statement i := by
  simp [Statement, h, hl]

theorem of_two {i : Instr} {op x : Byte} (h : encode i = [op, x]) (hl : primaryLength op = 2) : Statement i := by
  simp [Statement, h, hl]

theorem of_three {i : Instr} {op x y : Byte} (h : encode i = [op, x, y]) (hl : primaryLength op = 3) : Statement i := by
  simp [Statement, h, hl]

theorem pushBC : Statement (.pushBC) := of_one (op := 0xC5) rfl (by decide)
theorem popBC : Statement (.popBC) := of_one (op := 0xC1) rfl (by decide)
theorem pushDE : Statement (.pushDE) := of_one (op := 0xD5) rfl (by decide)
theorem popDE : Statement (.popDE) := of_one (op := 0xD1) rfl (by decide)
theorem pushHL : Statement (.pushHL) := of_one (op := 0xE5) rfl (by decide)
theorem popHL : Statement (.popHL) := of_one (op := 0xE1) rfl (by decide)
theorem pushAF : Statement (.pushAF) := of_one (op := 0xF5) rfl (by decide)
theorem popAF : Statement (.popAF) := of_one (op := 0xF1) rfl (by decide)
theorem ldBFromB : Statement (.ldBFromB) := of_one (op := 0x40) rfl (by decide)
theorem ldBFromC : Statement (.ldBFromC) := of_one (op := 0x41) rfl (by decide)
theorem ldBFromD : Statement (.ldBFromD) := of_one (op := 0x42) rfl (by decide)
theorem ldBFromE : Statement (.ldBFromE) := of_one (op := 0x43) rfl (by decide)
theorem ldBFromH : Statement (.ldBFromH) := of_one (op := 0x44) rfl (by decide)
theorem ldBFromL : Statement (.ldBFromL) := of_one (op := 0x45) rfl (by decide)
theorem ldBFromA : Statement (.ldBFromA) := of_one (op := 0x47) rfl (by decide)
theorem ldCFromB : Statement (.ldCFromB) := of_one (op := 0x48) rfl (by decide)
theorem ldCFromC : Statement (.ldCFromC) := of_one (op := 0x49) rfl (by decide)
theorem ldCFromD : Statement (.ldCFromD) := of_one (op := 0x4A) rfl (by decide)
theorem ldCFromE : Statement (.ldCFromE) := of_one (op := 0x4B) rfl (by decide)
theorem ldCFromH : Statement (.ldCFromH) := of_one (op := 0x4C) rfl (by decide)
theorem ldCFromL : Statement (.ldCFromL) := of_one (op := 0x4D) rfl (by decide)
theorem ldCFromA : Statement (.ldCFromA) := of_one (op := 0x4F) rfl (by decide)
theorem ldDFromB : Statement (.ldDFromB) := of_one (op := 0x50) rfl (by decide)
theorem ldDFromC : Statement (.ldDFromC) := of_one (op := 0x51) rfl (by decide)
theorem ldDFromD : Statement (.ldDFromD) := of_one (op := 0x52) rfl (by decide)
theorem ldDFromE : Statement (.ldDFromE) := of_one (op := 0x53) rfl (by decide)
theorem ldDFromH : Statement (.ldDFromH) := of_one (op := 0x54) rfl (by decide)
theorem ldDFromL : Statement (.ldDFromL) := of_one (op := 0x55) rfl (by decide)
theorem ldDFromA : Statement (.ldDFromA) := of_one (op := 0x57) rfl (by decide)
theorem ldEFromB : Statement (.ldEFromB) := of_one (op := 0x58) rfl (by decide)
theorem ldEFromC : Statement (.ldEFromC) := of_one (op := 0x59) rfl (by decide)
theorem ldEFromD : Statement (.ldEFromD) := of_one (op := 0x5A) rfl (by decide)
theorem ldEFromE : Statement (.ldEFromE) := of_one (op := 0x5B) rfl (by decide)
theorem ldEFromH : Statement (.ldEFromH) := of_one (op := 0x5C) rfl (by decide)
theorem ldEFromL : Statement (.ldEFromL) := of_one (op := 0x5D) rfl (by decide)
theorem ldEFromA : Statement (.ldEFromA) := of_one (op := 0x5F) rfl (by decide)
theorem ldHFromB : Statement (.ldHFromB) := of_one (op := 0x60) rfl (by decide)
theorem ldHFromC : Statement (.ldHFromC) := of_one (op := 0x61) rfl (by decide)
theorem ldHFromD : Statement (.ldHFromD) := of_one (op := 0x62) rfl (by decide)
theorem ldHFromE : Statement (.ldHFromE) := of_one (op := 0x63) rfl (by decide)
theorem ldHFromH : Statement (.ldHFromH) := of_one (op := 0x64) rfl (by decide)
theorem ldHFromL : Statement (.ldHFromL) := of_one (op := 0x65) rfl (by decide)
theorem ldHFromA : Statement (.ldHFromA) := of_one (op := 0x67) rfl (by decide)
theorem ldLFromB : Statement (.ldLFromB) := of_one (op := 0x68) rfl (by decide)
theorem ldLFromC : Statement (.ldLFromC) := of_one (op := 0x69) rfl (by decide)
theorem ldLFromD : Statement (.ldLFromD) := of_one (op := 0x6A) rfl (by decide)
theorem ldLFromE : Statement (.ldLFromE) := of_one (op := 0x6B) rfl (by decide)
theorem ldLFromH : Statement (.ldLFromH) := of_one (op := 0x6C) rfl (by decide)
theorem ldLFromL : Statement (.ldLFromL) := of_one (op := 0x6D) rfl (by decide)
theorem ldLFromA : Statement (.ldLFromA) := of_one (op := 0x6F) rfl (by decide)
theorem ldAFromB : Statement (.ldAFromB) := of_one (op := 0x78) rfl (by decide)
theorem ldAFromC : Statement (.ldAFromC) := of_one (op := 0x79) rfl (by decide)
theorem ldAFromD : Statement (.ldAFromD) := of_one (op := 0x7A) rfl (by decide)
theorem ldAFromE : Statement (.ldAFromE) := of_one (op := 0x7B) rfl (by decide)
theorem ldAFromH : Statement (.ldAFromH) := of_one (op := 0x7C) rfl (by decide)
theorem ldAFromL : Statement (.ldAFromL) := of_one (op := 0x7D) rfl (by decide)
theorem ldAFromA : Statement (.ldAFromA) := of_one (op := 0x7F) rfl (by decide)
theorem ldAtImmFromSP (nn : Word) : Statement (.ldAtImmFromSP nn) := of_three (op := 0x08) rfl (by decide)
theorem incB : Statement (.incB) := of_one (op := 0x04) rfl (by decide)
theorem decB : Statement (.decB) := of_one (op := 0x05) rfl (by decide)
theorem ldBImm (n : Byte) : Statement (.ldBImm n) := of_two (op := 0x06) rfl (by decide)
theorem incC : Statement (.incC) := of_one (op := 0x0C) rfl (by decide)
theorem decC : Statement (.decC) := of_one (op := 0x0D) rfl (by decide)
theorem ldCImm (n : Byte) : Statement (.ldCImm n) := of_two (op := 0x0E) rfl (by decide)
theorem incD : Statement (.incD) := of_one (op := 0x14) rfl (by decide)
theorem decD : Statement (.decD) := of_one (op := 0x15) rfl (by decide)
theorem ldDImm (n : Byte) : Statement (.ldDImm n) := of_two (op := 0x16) rfl (by decide)
theorem incE : Statement (.incE) := of_one (op := 0x1C) rfl (by decide)
theorem decE : Statement (.decE) := of_one (op := 0x1D) rfl (by decide)
theorem ldEImm (n : Byte) : Statement (.ldEImm n) := of_two (op := 0x1E) rfl (by decide)
theorem incH : Statement (.incH) := of_one (op := 0x24) rfl (by decide)
theorem decH : Statement (.decH) := of_one (op := 0x25) rfl (by decide)
theorem ldHImm (n : Byte) : Statement (.ldHImm n) := of_two (op := 0x26) rfl (by decide)
theorem incL : Statement (.incL) := of_one (op := 0x2C) rfl (by decide)
theorem decL : Statement (.decL) := of_one (op := 0x2D) rfl (by decide)
theorem ldLImm (n : Byte) : Statement (.ldLImm n) := of_two (op := 0x2E) rfl (by decide)
theorem incA : Statement (.incA) := of_one (op := 0x3C) rfl (by decide)
theorem decA : Statement (.decA) := of_one (op := 0x3D) rfl (by decide)
theorem ldAImm (n : Byte) : Statement (.ldAImm n) := of_two (op := 0x3E) rfl (by decide)
theorem ldAtHLImm (n : Byte) : Statement (.ldAtHLImm n) := of_two (op := 0x36) rfl (by decide)
theorem ldBCImm (nn : Word) : Statement (.ldBCImm nn) := of_three (op := 0x01) rfl (by decide)
theorem ldDEImm (nn : Word) : Statement (.ldDEImm nn) := of_three (op := 0x11) rfl (by decide)
theorem ldHLImm (nn : Word) : Statement (.ldHLImm nn) := of_three (op := 0x21) rfl (by decide)
theorem ldSPImm (nn : Word) : Statement (.ldSPImm nn) := of_three (op := 0x31) rfl (by decide)
theorem ldAFromAtBC : Statement (.ldAFromAtBC) := of_one (op := 0x0A) rfl (by decide)
theorem ldAFromAtDE : Statement (.ldAFromAtDE) := of_one (op := 0x1A) rfl (by decide)
theorem ldAFromAtHL : Statement (.ldAFromAtHL) := of_one (op := 0x7E) rfl (by decide)
theorem jr (e : Byte) : Statement (.jr e) := of_two (op := 0x18) rfl (by decide)
theorem jrNZ (e : Byte) : Statement (.jrNZ e) := of_two (op := 0x20) rfl (by decide)
theorem jrZ (e : Byte) : Statement (.jrZ e) := of_two (op := 0x28) rfl (by decide)
theorem jrNC (e : Byte) : Statement (.jrNC e) := of_two (op := 0x30) rfl (by decide)
theorem jrC (e : Byte) : Statement (.jrC e) := of_two (op := 0x38) rfl (by decide)
theorem ldAtHLIncFromA : Statement (.ldAtHLIncFromA) := of_one (op := 0x22) rfl (by decide)
theorem ldAtHLDecFromA : Statement (.ldAtHLDecFromA) := of_one (op := 0x32) rfl (by decide)
theorem ldAFromAtHLInc : Statement (.ldAFromAtHLInc) := of_one (op := 0x2A) rfl (by decide)
theorem ldAFromAtHLDec : Statement (.ldAFromAtHLDec) := of_one (op := 0x3A) rfl (by decide)
theorem incBC : Statement (.incBC) := of_one (op := 0x03) rfl (by decide)
theorem incDE : Statement (.incDE) := of_one (op := 0x13) rfl (by decide)
theorem incHL : Statement (.incHL) := of_one (op := 0x23) rfl (by decide)
theorem xorB : Statement (.xorB) := of_one (op := 0xA8) rfl (by decide)
theorem xorC : Statement (.xorC) := of_one (op := 0xA9) rfl (by decide)
theorem xorD : Statement (.xorD) := of_one (op := 0xAA) rfl (by decide)
theorem xorE : Statement (.xorE) := of_one (op := 0xAB) rfl (by decide)
theorem xorH : Statement (.xorH) := of_one (op := 0xAC) rfl (by decide)
theorem xorL : Statement (.xorL) := of_one (op := 0xAD) rfl (by decide)
theorem xorA : Statement (.xorA) := of_one (op := 0xAF) rfl (by decide)
theorem rst00 : Statement (.rst00) := of_one (op := 0xC7) rfl (by decide)
theorem rst08 : Statement (.rst08) := of_one (op := 0xCF) rfl (by decide)
theorem rst10 : Statement (.rst10) := of_one (op := 0xD7) rfl (by decide)
theorem rst18 : Statement (.rst18) := of_one (op := 0xDF) rfl (by decide)
theorem rst20 : Statement (.rst20) := of_one (op := 0xE7) rfl (by decide)
theorem rst28 : Statement (.rst28) := of_one (op := 0xEF) rfl (by decide)
theorem rst30 : Statement (.rst30) := of_one (op := 0xF7) rfl (by decide)
theorem rst38 : Statement (.rst38) := of_one (op := 0xFF) rfl (by decide)
theorem ldHighImmFromA (n : Byte) : Statement (.ldHighImmFromA n) := of_two (op := 0xE0) rfl (by decide)
theorem ldAFromHighImm (n : Byte) : Statement (.ldAFromHighImm n) := of_two (op := 0xF0) rfl (by decide)
theorem ldHighCFromA : Statement (.ldHighCFromA) := of_one (op := 0xE2) rfl (by decide)
theorem ldAFromHighC : Statement (.ldAFromHighC) := of_one (op := 0xF2) rfl (by decide)
theorem rlaAcc : Statement (.rlaAcc) := of_one (op := 0x17) rfl (by decide)
theorem call (nn : Word) : Statement (.call nn) := of_three (op := 0xCD) rfl (by decide)
theorem prefixCB (ext : Byte) : Statement (.prefixCB ext) := of_two (op := 0xCB) rfl (by decide)
theorem rlcB : Statement (.rlcB) := of_two (op := 0xCB) rfl (by decide)
theorem rlcC : Statement (.rlcC) := of_two (op := 0xCB) rfl (by decide)
theorem rlcD : Statement (.rlcD) := of_two (op := 0xCB) rfl (by decide)
theorem rlcE : Statement (.rlcE) := of_two (op := 0xCB) rfl (by decide)
theorem rlcH : Statement (.rlcH) := of_two (op := 0xCB) rfl (by decide)
theorem rlcL : Statement (.rlcL) := of_two (op := 0xCB) rfl (by decide)
theorem rlcAtHL : Statement (.rlcAtHL) := of_two (op := 0xCB) rfl (by decide)
theorem rlcA : Statement (.rlcA) := of_two (op := 0xCB) rfl (by decide)
theorem rrcB : Statement (.rrcB) := of_two (op := 0xCB) rfl (by decide)
theorem rrcC : Statement (.rrcC) := of_two (op := 0xCB) rfl (by decide)
theorem rrcD : Statement (.rrcD) := of_two (op := 0xCB) rfl (by decide)
theorem rrcE : Statement (.rrcE) := of_two (op := 0xCB) rfl (by decide)
theorem rrcH : Statement (.rrcH) := of_two (op := 0xCB) rfl (by decide)
theorem rrcL : Statement (.rrcL) := of_two (op := 0xCB) rfl (by decide)
theorem rrcAtHL : Statement (.rrcAtHL) := of_two (op := 0xCB) rfl (by decide)
theorem rrcA : Statement (.rrcA) := of_two (op := 0xCB) rfl (by decide)
theorem rlB : Statement (.rlB) := of_two (op := 0xCB) rfl (by decide)
theorem rlC : Statement (.rlC) := of_two (op := 0xCB) rfl (by decide)
theorem rlD : Statement (.rlD) := of_two (op := 0xCB) rfl (by decide)
theorem rlE : Statement (.rlE) := of_two (op := 0xCB) rfl (by decide)
theorem rlH : Statement (.rlH) := of_two (op := 0xCB) rfl (by decide)
theorem rlL : Statement (.rlL) := of_two (op := 0xCB) rfl (by decide)
theorem rlAtHL : Statement (.rlAtHL) := of_two (op := 0xCB) rfl (by decide)
theorem rlA : Statement (.rlA) := of_two (op := 0xCB) rfl (by decide)
theorem rrB : Statement (.rrB) := of_two (op := 0xCB) rfl (by decide)
theorem rrC : Statement (.rrC) := of_two (op := 0xCB) rfl (by decide)
theorem rrD : Statement (.rrD) := of_two (op := 0xCB) rfl (by decide)
theorem rrE : Statement (.rrE) := of_two (op := 0xCB) rfl (by decide)
theorem rrH : Statement (.rrH) := of_two (op := 0xCB) rfl (by decide)
theorem rrL : Statement (.rrL) := of_two (op := 0xCB) rfl (by decide)
theorem rrAtHL : Statement (.rrAtHL) := of_two (op := 0xCB) rfl (by decide)
theorem rrA : Statement (.rrA) := of_two (op := 0xCB) rfl (by decide)
theorem slaB : Statement (.slaB) := of_two (op := 0xCB) rfl (by decide)
theorem slaC : Statement (.slaC) := of_two (op := 0xCB) rfl (by decide)
theorem slaD : Statement (.slaD) := of_two (op := 0xCB) rfl (by decide)
theorem slaE : Statement (.slaE) := of_two (op := 0xCB) rfl (by decide)
theorem slaH : Statement (.slaH) := of_two (op := 0xCB) rfl (by decide)
theorem slaL : Statement (.slaL) := of_two (op := 0xCB) rfl (by decide)
theorem slaAtHL : Statement (.slaAtHL) := of_two (op := 0xCB) rfl (by decide)
theorem slaA : Statement (.slaA) := of_two (op := 0xCB) rfl (by decide)
theorem sraB : Statement (.sraB) := of_two (op := 0xCB) rfl (by decide)
theorem sraC : Statement (.sraC) := of_two (op := 0xCB) rfl (by decide)
theorem sraD : Statement (.sraD) := of_two (op := 0xCB) rfl (by decide)
theorem sraE : Statement (.sraE) := of_two (op := 0xCB) rfl (by decide)
theorem sraH : Statement (.sraH) := of_two (op := 0xCB) rfl (by decide)
theorem sraL : Statement (.sraL) := of_two (op := 0xCB) rfl (by decide)
theorem sraAtHL : Statement (.sraAtHL) := of_two (op := 0xCB) rfl (by decide)
theorem sraA : Statement (.sraA) := of_two (op := 0xCB) rfl (by decide)
theorem srlB : Statement (.srlB) := of_two (op := 0xCB) rfl (by decide)
theorem srlC : Statement (.srlC) := of_two (op := 0xCB) rfl (by decide)
theorem srlD : Statement (.srlD) := of_two (op := 0xCB) rfl (by decide)
theorem srlE : Statement (.srlE) := of_two (op := 0xCB) rfl (by decide)
theorem srlH : Statement (.srlH) := of_two (op := 0xCB) rfl (by decide)
theorem srlL : Statement (.srlL) := of_two (op := 0xCB) rfl (by decide)
theorem srlAtHL : Statement (.srlAtHL) := of_two (op := 0xCB) rfl (by decide)
theorem srlA : Statement (.srlA) := of_two (op := 0xCB) rfl (by decide)
theorem bit0B : Statement (.bit0B) := of_two (op := 0xCB) rfl (by decide)
theorem bit0C : Statement (.bit0C) := of_two (op := 0xCB) rfl (by decide)
theorem bit0D : Statement (.bit0D) := of_two (op := 0xCB) rfl (by decide)
theorem bit0E : Statement (.bit0E) := of_two (op := 0xCB) rfl (by decide)
theorem bit0H : Statement (.bit0H) := of_two (op := 0xCB) rfl (by decide)
theorem bit0L : Statement (.bit0L) := of_two (op := 0xCB) rfl (by decide)
theorem bit0AtHL : Statement (.bit0AtHL) := of_two (op := 0xCB) rfl (by decide)
theorem bit0A : Statement (.bit0A) := of_two (op := 0xCB) rfl (by decide)
theorem bit1B : Statement (.bit1B) := of_two (op := 0xCB) rfl (by decide)
theorem bit1C : Statement (.bit1C) := of_two (op := 0xCB) rfl (by decide)
theorem bit1D : Statement (.bit1D) := of_two (op := 0xCB) rfl (by decide)
theorem bit1E : Statement (.bit1E) := of_two (op := 0xCB) rfl (by decide)
theorem bit1H : Statement (.bit1H) := of_two (op := 0xCB) rfl (by decide)
theorem bit1L : Statement (.bit1L) := of_two (op := 0xCB) rfl (by decide)
theorem bit1AtHL : Statement (.bit1AtHL) := of_two (op := 0xCB) rfl (by decide)
theorem bit1A : Statement (.bit1A) := of_two (op := 0xCB) rfl (by decide)
theorem bit2B : Statement (.bit2B) := of_two (op := 0xCB) rfl (by decide)
theorem bit2C : Statement (.bit2C) := of_two (op := 0xCB) rfl (by decide)
theorem bit2D : Statement (.bit2D) := of_two (op := 0xCB) rfl (by decide)
theorem bit2E : Statement (.bit2E) := of_two (op := 0xCB) rfl (by decide)
theorem bit2H : Statement (.bit2H) := of_two (op := 0xCB) rfl (by decide)
theorem bit2L : Statement (.bit2L) := of_two (op := 0xCB) rfl (by decide)
theorem bit2AtHL : Statement (.bit2AtHL) := of_two (op := 0xCB) rfl (by decide)
theorem bit2A : Statement (.bit2A) := of_two (op := 0xCB) rfl (by decide)
theorem bit3B : Statement (.bit3B) := of_two (op := 0xCB) rfl (by decide)
theorem bit3C : Statement (.bit3C) := of_two (op := 0xCB) rfl (by decide)
theorem bit3D : Statement (.bit3D) := of_two (op := 0xCB) rfl (by decide)
theorem bit3E : Statement (.bit3E) := of_two (op := 0xCB) rfl (by decide)
theorem bit3H : Statement (.bit3H) := of_two (op := 0xCB) rfl (by decide)
theorem bit3L : Statement (.bit3L) := of_two (op := 0xCB) rfl (by decide)
theorem bit3AtHL : Statement (.bit3AtHL) := of_two (op := 0xCB) rfl (by decide)
theorem bit3A : Statement (.bit3A) := of_two (op := 0xCB) rfl (by decide)
theorem bit4B : Statement (.bit4B) := of_two (op := 0xCB) rfl (by decide)
theorem bit4C : Statement (.bit4C) := of_two (op := 0xCB) rfl (by decide)
theorem bit4D : Statement (.bit4D) := of_two (op := 0xCB) rfl (by decide)
theorem bit4E : Statement (.bit4E) := of_two (op := 0xCB) rfl (by decide)
theorem bit4H : Statement (.bit4H) := of_two (op := 0xCB) rfl (by decide)
theorem bit4L : Statement (.bit4L) := of_two (op := 0xCB) rfl (by decide)
theorem bit4AtHL : Statement (.bit4AtHL) := of_two (op := 0xCB) rfl (by decide)
theorem bit4A : Statement (.bit4A) := of_two (op := 0xCB) rfl (by decide)
theorem bit5B : Statement (.bit5B) := of_two (op := 0xCB) rfl (by decide)
theorem bit5C : Statement (.bit5C) := of_two (op := 0xCB) rfl (by decide)
theorem bit5D : Statement (.bit5D) := of_two (op := 0xCB) rfl (by decide)
theorem bit5E : Statement (.bit5E) := of_two (op := 0xCB) rfl (by decide)
theorem bit5H : Statement (.bit5H) := of_two (op := 0xCB) rfl (by decide)
theorem bit5L : Statement (.bit5L) := of_two (op := 0xCB) rfl (by decide)
theorem bit5AtHL : Statement (.bit5AtHL) := of_two (op := 0xCB) rfl (by decide)
theorem bit5A : Statement (.bit5A) := of_two (op := 0xCB) rfl (by decide)
theorem bit6B : Statement (.bit6B) := of_two (op := 0xCB) rfl (by decide)
theorem bit6C : Statement (.bit6C) := of_two (op := 0xCB) rfl (by decide)
theorem bit6D : Statement (.bit6D) := of_two (op := 0xCB) rfl (by decide)
theorem bit6E : Statement (.bit6E) := of_two (op := 0xCB) rfl (by decide)
theorem bit6H : Statement (.bit6H) := of_two (op := 0xCB) rfl (by decide)
theorem bit6L : Statement (.bit6L) := of_two (op := 0xCB) rfl (by decide)
theorem bit6AtHL : Statement (.bit6AtHL) := of_two (op := 0xCB) rfl (by decide)
theorem bit6A : Statement (.bit6A) := of_two (op := 0xCB) rfl (by decide)
theorem bit7B : Statement (.bit7B) := of_two (op := 0xCB) rfl (by decide)
theorem bit7C : Statement (.bit7C) := of_two (op := 0xCB) rfl (by decide)
theorem bit7D : Statement (.bit7D) := of_two (op := 0xCB) rfl (by decide)
theorem bit7E : Statement (.bit7E) := of_two (op := 0xCB) rfl (by decide)
theorem bit7H : Statement (.bit7H) := of_two (op := 0xCB) rfl (by decide)
theorem bit7L : Statement (.bit7L) := of_two (op := 0xCB) rfl (by decide)
theorem bit7AtHL : Statement (.bit7AtHL) := of_two (op := 0xCB) rfl (by decide)
theorem bit7A : Statement (.bit7A) := of_two (op := 0xCB) rfl (by decide)
theorem res0B : Statement (.res0B) := of_two (op := 0xCB) rfl (by decide)
theorem res0C : Statement (.res0C) := of_two (op := 0xCB) rfl (by decide)
theorem res0D : Statement (.res0D) := of_two (op := 0xCB) rfl (by decide)
theorem res0E : Statement (.res0E) := of_two (op := 0xCB) rfl (by decide)
theorem res0H : Statement (.res0H) := of_two (op := 0xCB) rfl (by decide)
theorem res0L : Statement (.res0L) := of_two (op := 0xCB) rfl (by decide)
theorem res0AtHL : Statement (.res0AtHL) := of_two (op := 0xCB) rfl (by decide)
theorem res0A : Statement (.res0A) := of_two (op := 0xCB) rfl (by decide)
theorem res1B : Statement (.res1B) := of_two (op := 0xCB) rfl (by decide)
theorem res1C : Statement (.res1C) := of_two (op := 0xCB) rfl (by decide)
theorem res1D : Statement (.res1D) := of_two (op := 0xCB) rfl (by decide)
theorem res1E : Statement (.res1E) := of_two (op := 0xCB) rfl (by decide)
theorem res1H : Statement (.res1H) := of_two (op := 0xCB) rfl (by decide)
theorem res1L : Statement (.res1L) := of_two (op := 0xCB) rfl (by decide)
theorem res1AtHL : Statement (.res1AtHL) := of_two (op := 0xCB) rfl (by decide)
theorem res1A : Statement (.res1A) := of_two (op := 0xCB) rfl (by decide)
theorem res2B : Statement (.res2B) := of_two (op := 0xCB) rfl (by decide)
theorem res2C : Statement (.res2C) := of_two (op := 0xCB) rfl (by decide)
theorem res2D : Statement (.res2D) := of_two (op := 0xCB) rfl (by decide)
theorem res2E : Statement (.res2E) := of_two (op := 0xCB) rfl (by decide)
theorem res2H : Statement (.res2H) := of_two (op := 0xCB) rfl (by decide)
theorem res2L : Statement (.res2L) := of_two (op := 0xCB) rfl (by decide)
theorem res2AtHL : Statement (.res2AtHL) := of_two (op := 0xCB) rfl (by decide)
theorem res2A : Statement (.res2A) := of_two (op := 0xCB) rfl (by decide)
theorem res3B : Statement (.res3B) := of_two (op := 0xCB) rfl (by decide)
theorem res3C : Statement (.res3C) := of_two (op := 0xCB) rfl (by decide)
theorem res3D : Statement (.res3D) := of_two (op := 0xCB) rfl (by decide)
theorem res3E : Statement (.res3E) := of_two (op := 0xCB) rfl (by decide)
theorem res3H : Statement (.res3H) := of_two (op := 0xCB) rfl (by decide)
theorem res3L : Statement (.res3L) := of_two (op := 0xCB) rfl (by decide)
theorem res3AtHL : Statement (.res3AtHL) := of_two (op := 0xCB) rfl (by decide)
theorem res3A : Statement (.res3A) := of_two (op := 0xCB) rfl (by decide)
theorem res4B : Statement (.res4B) := of_two (op := 0xCB) rfl (by decide)
theorem res4C : Statement (.res4C) := of_two (op := 0xCB) rfl (by decide)
theorem res4D : Statement (.res4D) := of_two (op := 0xCB) rfl (by decide)
theorem res4E : Statement (.res4E) := of_two (op := 0xCB) rfl (by decide)
theorem res4H : Statement (.res4H) := of_two (op := 0xCB) rfl (by decide)
theorem res4L : Statement (.res4L) := of_two (op := 0xCB) rfl (by decide)
theorem res4AtHL : Statement (.res4AtHL) := of_two (op := 0xCB) rfl (by decide)
theorem res4A : Statement (.res4A) := of_two (op := 0xCB) rfl (by decide)
theorem res5B : Statement (.res5B) := of_two (op := 0xCB) rfl (by decide)
theorem res5C : Statement (.res5C) := of_two (op := 0xCB) rfl (by decide)
theorem res5D : Statement (.res5D) := of_two (op := 0xCB) rfl (by decide)
theorem res5E : Statement (.res5E) := of_two (op := 0xCB) rfl (by decide)
theorem res5H : Statement (.res5H) := of_two (op := 0xCB) rfl (by decide)
theorem res5L : Statement (.res5L) := of_two (op := 0xCB) rfl (by decide)
theorem res5AtHL : Statement (.res5AtHL) := of_two (op := 0xCB) rfl (by decide)
theorem res5A : Statement (.res5A) := of_two (op := 0xCB) rfl (by decide)
theorem res6B : Statement (.res6B) := of_two (op := 0xCB) rfl (by decide)
theorem res6C : Statement (.res6C) := of_two (op := 0xCB) rfl (by decide)
theorem res6D : Statement (.res6D) := of_two (op := 0xCB) rfl (by decide)
theorem res6E : Statement (.res6E) := of_two (op := 0xCB) rfl (by decide)
theorem res6H : Statement (.res6H) := of_two (op := 0xCB) rfl (by decide)
theorem res6L : Statement (.res6L) := of_two (op := 0xCB) rfl (by decide)
theorem res6AtHL : Statement (.res6AtHL) := of_two (op := 0xCB) rfl (by decide)
theorem res6A : Statement (.res6A) := of_two (op := 0xCB) rfl (by decide)
theorem res7B : Statement (.res7B) := of_two (op := 0xCB) rfl (by decide)
theorem res7C : Statement (.res7C) := of_two (op := 0xCB) rfl (by decide)
theorem res7D : Statement (.res7D) := of_two (op := 0xCB) rfl (by decide)
theorem res7E : Statement (.res7E) := of_two (op := 0xCB) rfl (by decide)
theorem res7H : Statement (.res7H) := of_two (op := 0xCB) rfl (by decide)
theorem res7L : Statement (.res7L) := of_two (op := 0xCB) rfl (by decide)
theorem res7AtHL : Statement (.res7AtHL) := of_two (op := 0xCB) rfl (by decide)
theorem res7A : Statement (.res7A) := of_two (op := 0xCB) rfl (by decide)
theorem set0B : Statement (.set0B) := of_two (op := 0xCB) rfl (by decide)
theorem set0C : Statement (.set0C) := of_two (op := 0xCB) rfl (by decide)
theorem set0D : Statement (.set0D) := of_two (op := 0xCB) rfl (by decide)
theorem set0E : Statement (.set0E) := of_two (op := 0xCB) rfl (by decide)
theorem set0H : Statement (.set0H) := of_two (op := 0xCB) rfl (by decide)
theorem set0L : Statement (.set0L) := of_two (op := 0xCB) rfl (by decide)
theorem set0AtHL : Statement (.set0AtHL) := of_two (op := 0xCB) rfl (by decide)
theorem set0A : Statement (.set0A) := of_two (op := 0xCB) rfl (by decide)
theorem set1B : Statement (.set1B) := of_two (op := 0xCB) rfl (by decide)
theorem set1C : Statement (.set1C) := of_two (op := 0xCB) rfl (by decide)
theorem set1D : Statement (.set1D) := of_two (op := 0xCB) rfl (by decide)
theorem set1E : Statement (.set1E) := of_two (op := 0xCB) rfl (by decide)
theorem set1H : Statement (.set1H) := of_two (op := 0xCB) rfl (by decide)
theorem set1L : Statement (.set1L) := of_two (op := 0xCB) rfl (by decide)
theorem set1AtHL : Statement (.set1AtHL) := of_two (op := 0xCB) rfl (by decide)
theorem set1A : Statement (.set1A) := of_two (op := 0xCB) rfl (by decide)
theorem set2B : Statement (.set2B) := of_two (op := 0xCB) rfl (by decide)
theorem set2C : Statement (.set2C) := of_two (op := 0xCB) rfl (by decide)
theorem set2D : Statement (.set2D) := of_two (op := 0xCB) rfl (by decide)
theorem set2E : Statement (.set2E) := of_two (op := 0xCB) rfl (by decide)
theorem set2H : Statement (.set2H) := of_two (op := 0xCB) rfl (by decide)
theorem set2L : Statement (.set2L) := of_two (op := 0xCB) rfl (by decide)
theorem set2AtHL : Statement (.set2AtHL) := of_two (op := 0xCB) rfl (by decide)
theorem set2A : Statement (.set2A) := of_two (op := 0xCB) rfl (by decide)
theorem set3B : Statement (.set3B) := of_two (op := 0xCB) rfl (by decide)
theorem set3C : Statement (.set3C) := of_two (op := 0xCB) rfl (by decide)
theorem set3D : Statement (.set3D) := of_two (op := 0xCB) rfl (by decide)
theorem set3E : Statement (.set3E) := of_two (op := 0xCB) rfl (by decide)
theorem set3H : Statement (.set3H) := of_two (op := 0xCB) rfl (by decide)
theorem set3L : Statement (.set3L) := of_two (op := 0xCB) rfl (by decide)
theorem set3AtHL : Statement (.set3AtHL) := of_two (op := 0xCB) rfl (by decide)
theorem set3A : Statement (.set3A) := of_two (op := 0xCB) rfl (by decide)
theorem set4B : Statement (.set4B) := of_two (op := 0xCB) rfl (by decide)
theorem set4C : Statement (.set4C) := of_two (op := 0xCB) rfl (by decide)
theorem set4D : Statement (.set4D) := of_two (op := 0xCB) rfl (by decide)
theorem set4E : Statement (.set4E) := of_two (op := 0xCB) rfl (by decide)
theorem set4H : Statement (.set4H) := of_two (op := 0xCB) rfl (by decide)
theorem set4L : Statement (.set4L) := of_two (op := 0xCB) rfl (by decide)
theorem set4AtHL : Statement (.set4AtHL) := of_two (op := 0xCB) rfl (by decide)
theorem set4A : Statement (.set4A) := of_two (op := 0xCB) rfl (by decide)
theorem set5B : Statement (.set5B) := of_two (op := 0xCB) rfl (by decide)
theorem set5C : Statement (.set5C) := of_two (op := 0xCB) rfl (by decide)
theorem set5D : Statement (.set5D) := of_two (op := 0xCB) rfl (by decide)
theorem set5E : Statement (.set5E) := of_two (op := 0xCB) rfl (by decide)
theorem set5H : Statement (.set5H) := of_two (op := 0xCB) rfl (by decide)
theorem set5L : Statement (.set5L) := of_two (op := 0xCB) rfl (by decide)
theorem set5AtHL : Statement (.set5AtHL) := of_two (op := 0xCB) rfl (by decide)
theorem set5A : Statement (.set5A) := of_two (op := 0xCB) rfl (by decide)
theorem set6B : Statement (.set6B) := of_two (op := 0xCB) rfl (by decide)
theorem set6C : Statement (.set6C) := of_two (op := 0xCB) rfl (by decide)
theorem set6D : Statement (.set6D) := of_two (op := 0xCB) rfl (by decide)
theorem set6E : Statement (.set6E) := of_two (op := 0xCB) rfl (by decide)
theorem set6H : Statement (.set6H) := of_two (op := 0xCB) rfl (by decide)
theorem set6L : Statement (.set6L) := of_two (op := 0xCB) rfl (by decide)
theorem set6AtHL : Statement (.set6AtHL) := of_two (op := 0xCB) rfl (by decide)
theorem set6A : Statement (.set6A) := of_two (op := 0xCB) rfl (by decide)
theorem set7B : Statement (.set7B) := of_two (op := 0xCB) rfl (by decide)
theorem set7C : Statement (.set7C) := of_two (op := 0xCB) rfl (by decide)
theorem set7D : Statement (.set7D) := of_two (op := 0xCB) rfl (by decide)
theorem set7E : Statement (.set7E) := of_two (op := 0xCB) rfl (by decide)
theorem set7H : Statement (.set7H) := of_two (op := 0xCB) rfl (by decide)
theorem set7L : Statement (.set7L) := of_two (op := 0xCB) rfl (by decide)
theorem set7AtHL : Statement (.set7AtHL) := of_two (op := 0xCB) rfl (by decide)
theorem set7A : Statement (.set7A) := of_two (op := 0xCB) rfl (by decide)

end Sys2Proof.Laws.EncodedLength
end

