-- ==== Sys2Proof/Tests/Slice0.lean ====
section
/-! SUPPORT. The model's own tests: ill-formed terms, every row's decoding from the bits the spec writes out, single steps
against `95_test_vectors.md`, and a witness for the premises of each statement. -/

namespace Sys2Proof.Tests

open Sys2Proof.Machine

/-- The start state of a vector: pc and the listed bytes of memory, everything else as after reset. -/
def at0 (pc : Word) (mem : Memory) : State := { State.reset with pc := pc, mem := mem }

/-- The state an outcome goes on to. -/
def after : Out → State
  | .next t => t
  | .fault _ => State.reset
  | .refused _ => State.reset

/-- An instruction answers the next state that `after` gives. -/
theorem exec_after (i : Instr) (s : State) : exec i s = .next (after (exec i s)) := by
  obtain ⟨t, h⟩ := exec_answers i s
  rw [h]
  rfl

/-- One step of the machine. -/
def stepped (s : State) : State := after (step s)

/-! ## Well-formedness (`44_control.md` R124) -/

/-- A prefix term with a byte of the extended table is no instruction of its own. -/
theorem test_wellFormed_refuses_entry : WellFormed (.prefixCB 0x2F) = false ∧ WellFormed (.prefixCB 0x38) = false := by decide
/-- A prefix term with a byte without an entry is the prefix row. -/
theorem test_wellFormed_prefix : WellFormed (.prefixCB 0x30) = true ∧ WellFormed (.prefixCB 0x37) = true := by decide
theorem test_wellFormed_other : WellFormed .pushBC = true ∧ WellFormed (.call 0xFFFF) = true := by decide

/-! ## Decoding: the bits of the `encoding` column of `opcode_table.json`, immediate bytes 0x12, 0x34 written in -/

/-- Each line's bytes decode to its instruction with nothing left, and are what the encoder gives. -/
def decodesTo (rows : List (List Byte × Instr)) : Bool :=
  rows.all fun r => decide ((decode r.1).toOption = some (r.2, [])) && decide (encode r.2 = r.1)

theorem test_decode_stack : decodesTo [
    ([0b11000101], .pushBC), ([0b11000001], .popBC), ([0b11010101], .pushDE), ([0b11010001], .popDE),
    ([0b11100101], .pushHL), ([0b11100001], .popHL), ([0b11110101], .pushAF), ([0b11110001], .popAF)] = true := by decide

theorem test_decode_loads1 : decodesTo [
    ([0b01000000], .ldBFromB), ([0b01000001], .ldBFromC), ([0b01000010], .ldBFromD), ([0b01000011], .ldBFromE),
    ([0b01000100], .ldBFromH), ([0b01000101], .ldBFromL), ([0b01000111], .ldBFromA), ([0b01001000], .ldCFromB),
    ([0b01001001], .ldCFromC), ([0b01001010], .ldCFromD), ([0b01001011], .ldCFromE), ([0b01001100], .ldCFromH),
    ([0b01001101], .ldCFromL), ([0b01001111], .ldCFromA), ([0b01010000], .ldDFromB), ([0b01010001], .ldDFromC),
    ([0b01010010], .ldDFromD), ([0b01010011], .ldDFromE), ([0b01010100], .ldDFromH), ([0b01010101], .ldDFromL),
    ([0b01010111], .ldDFromA), ([0b01011000], .ldEFromB), ([0b01011001], .ldEFromC), ([0b01011010], .ldEFromD),
    ([0b01011011], .ldEFromE), ([0b01011100], .ldEFromH)] = true := by decide

theorem test_decode_loads2 : decodesTo [
    ([0b01011101], .ldEFromL), ([0b01011111], .ldEFromA), ([0b01100000], .ldHFromB), ([0b01100001], .ldHFromC),
    ([0b01100010], .ldHFromD), ([0b01100011], .ldHFromE), ([0b01100100], .ldHFromH), ([0b01100101], .ldHFromL),
    ([0b01100111], .ldHFromA), ([0b01101000], .ldLFromB), ([0b01101001], .ldLFromC), ([0b01101010], .ldLFromD),
    ([0b01101011], .ldLFromE), ([0b01101100], .ldLFromH), ([0b01101101], .ldLFromL), ([0b01101111], .ldLFromA),
    ([0b01111000], .ldAFromB), ([0b01111001], .ldAFromC), ([0b01111010], .ldAFromD), ([0b01111011], .ldAFromE),
    ([0b01111100], .ldAFromH), ([0b01111101], .ldAFromL), ([0b01111111], .ldAFromA),
    ([0b00001000, 0x34, 0x12], .ldAtImmFromSP 0x1234), ([0b00000110, 0x34], .ldBImm 0x34),
    ([0b00001110, 0x34], .ldCImm 0x34)] = true := by decide

theorem test_decode_loads3 : decodesTo [
    ([0b00010110, 0x34], .ldDImm 0x34), ([0b00011110, 0x34], .ldEImm 0x34), ([0b00100110, 0x34], .ldHImm 0x34),
    ([0b00101110, 0x34], .ldLImm 0x34), ([0b00111110, 0x34], .ldAImm 0x34), ([0b00110110, 0x34], .ldAtHLImm 0x34),
    ([0b00000001, 0x34, 0x12], .ldBCImm 0x1234), ([0b00010001, 0x34, 0x12], .ldDEImm 0x1234),
    ([0b00100001, 0x34, 0x12], .ldHLImm 0x1234), ([0b00110001, 0x34, 0x12], .ldSPImm 0x1234),
    ([0b00001010], .ldAFromAtBC), ([0b00011010], .ldAFromAtDE), ([0b01111110], .ldAFromAtHL),
    ([0b00100010], .ldAtHLIncFromA), ([0b00110010], .ldAtHLDecFromA), ([0b00101010], .ldAFromAtHLInc),
    ([0b00111010], .ldAFromAtHLDec), ([0b11100000, 0x34], .ldHighImmFromA 0x34),
    ([0b11110000, 0x34], .ldAFromHighImm 0x34), ([0b11100010], .ldHighCFromA), ([0b11110010], .ldAFromHighC)] = true := by decide

theorem test_decode_arith : decodesTo [
    ([0b00000100], .incB), ([0b00000101], .decB), ([0b00001100], .incC), ([0b00001101], .decC),
    ([0b00010100], .incD), ([0b00010101], .decD), ([0b00011100], .incE), ([0b00011101], .decE),
    ([0b00100100], .incH), ([0b00100101], .decH), ([0b00101100], .incL), ([0b00101101], .decL),
    ([0b00111100], .incA), ([0b00111101], .decA), ([0b00000011], .incBC), ([0b00010011], .incDE),
    ([0b00100011], .incHL), ([0b10101000], .xorB), ([0b10101001], .xorC), ([0b10101010], .xorD),
    ([0b10101011], .xorE), ([0b10101100], .xorH), ([0b10101101], .xorL), ([0b10101111], .xorA),
    ([0b00010111], .rlaAcc)] = true := by decide

theorem test_decode_control : decodesTo [
    ([0b00011000, 0x34], .jr 0x34), ([0b00100000, 0x34], .jrNZ 0x34), ([0b00101000, 0x34], .jrZ 0x34),
    ([0b00110000, 0x34], .jrNC 0x34), ([0b00111000, 0x34], .jrC 0x34), ([0b11000111], .rst00),
    ([0b11001111], .rst08), ([0b11010111], .rst10), ([0b11011111], .rst18), ([0b11100111], .rst20),
    ([0b11101111], .rst28), ([0b11110111], .rst30), ([0b11111111], .rst38), ([0b11001101, 0x34, 0x12], .call 0x1234),
    ([0b11001011, 0b00110100], .prefixCB 0b00110100)] = true := by decide

theorem test_decode_rotate1 : decodesTo [
    ([0b11001011, 0b00000000], .rlcB), ([0b11001011, 0b00000001], .rlcC), ([0b11001011, 0b00000010], .rlcD),
    ([0b11001011, 0b00000011], .rlcE), ([0b11001011, 0b00000100], .rlcH), ([0b11001011, 0b00000101], .rlcL),
    ([0b11001011, 0b00000110], .rlcAtHL), ([0b11001011, 0b00000111], .rlcA), ([0b11001011, 0b00001000], .rrcB),
    ([0b11001011, 0b00001001], .rrcC), ([0b11001011, 0b00001010], .rrcD), ([0b11001011, 0b00001011], .rrcE),
    ([0b11001011, 0b00001100], .rrcH), ([0b11001011, 0b00001101], .rrcL), ([0b11001011, 0b00001110], .rrcAtHL),
    ([0b11001011, 0b00001111], .rrcA), ([0b11001011, 0b00010000], .rlB), ([0b11001011, 0b00010001], .rlC),
    ([0b11001011, 0b00010010], .rlD), ([0b11001011, 0b00010011], .rlE), ([0b11001011, 0b00010100], .rlH),
    ([0b11001011, 0b00010101], .rlL), ([0b11001011, 0b00010110], .rlAtHL), ([0b11001011, 0b00010111], .rlA),
    ([0b11001011, 0b00011000], .rrB), ([0b11001011, 0b00011001], .rrC), ([0b11001011, 0b00011010], .rrD),
    ([0b11001011, 0b00011011], .rrE), ([0b11001011, 0b00011100], .rrH), ([0b11001011, 0b00011101], .rrL),
    ([0b11001011, 0b00011110], .rrAtHL), ([0b11001011, 0b00011111], .rrA)] = true := by decide

theorem test_decode_rotate2 : decodesTo [
    ([0b11001011, 0b00100000], .slaB), ([0b11001011, 0b00100001], .slaC), ([0b11001011, 0b00100010], .slaD),
    ([0b11001011, 0b00100011], .slaE), ([0b11001011, 0b00100100], .slaH), ([0b11001011, 0b00100101], .slaL),
    ([0b11001011, 0b00100110], .slaAtHL), ([0b11001011, 0b00100111], .slaA), ([0b11001011, 0b00101000], .sraB),
    ([0b11001011, 0b00101001], .sraC), ([0b11001011, 0b00101010], .sraD), ([0b11001011, 0b00101011], .sraE),
    ([0b11001011, 0b00101100], .sraH), ([0b11001011, 0b00101101], .sraL), ([0b11001011, 0b00101110], .sraAtHL),
    ([0b11001011, 0b00101111], .sraA), ([0b11001011, 0b00111000], .srlB), ([0b11001011, 0b00111001], .srlC),
    ([0b11001011, 0b00111010], .srlD), ([0b11001011, 0b00111011], .srlE), ([0b11001011, 0b00111100], .srlH),
    ([0b11001011, 0b00111101], .srlL), ([0b11001011, 0b00111110], .srlAtHL), ([0b11001011, 0b00111111], .srlA)] = true := by decide

theorem test_decode_bit1 : decodesTo [
    ([0b11001011, 0b01000000], .bit0B), ([0b11001011, 0b01000001], .bit0C), ([0b11001011, 0b01000010], .bit0D),
    ([0b11001011, 0b01000011], .bit0E), ([0b11001011, 0b01000100], .bit0H), ([0b11001011, 0b01000101], .bit0L),
    ([0b11001011, 0b01000110], .bit0AtHL), ([0b11001011, 0b01000111], .bit0A), ([0b11001011, 0b01001000], .bit1B),
    ([0b11001011, 0b01001001], .bit1C), ([0b11001011, 0b01001010], .bit1D), ([0b11001011, 0b01001011], .bit1E),
    ([0b11001011, 0b01001100], .bit1H), ([0b11001011, 0b01001101], .bit1L), ([0b11001011, 0b01001110], .bit1AtHL),
    ([0b11001011, 0b01001111], .bit1A), ([0b11001011, 0b01010000], .bit2B), ([0b11001011, 0b01010001], .bit2C),
    ([0b11001011, 0b01010010], .bit2D), ([0b11001011, 0b01010011], .bit2E), ([0b11001011, 0b01010100], .bit2H),
    ([0b11001011, 0b01010101], .bit2L), ([0b11001011, 0b01010110], .bit2AtHL), ([0b11001011, 0b01010111], .bit2A),
    ([0b11001011, 0b01011000], .bit3B), ([0b11001011, 0b01011001], .bit3C), ([0b11001011, 0b01011010], .bit3D),
    ([0b11001011, 0b01011011], .bit3E), ([0b11001011, 0b01011100], .bit3H), ([0b11001011, 0b01011101], .bit3L),
    ([0b11001011, 0b01011110], .bit3AtHL), ([0b11001011, 0b01011111], .bit3A)] = true := by decide

theorem test_decode_bit2 : decodesTo [
    ([0b11001011, 0b01100000], .bit4B), ([0b11001011, 0b01100001], .bit4C), ([0b11001011, 0b01100010], .bit4D),
    ([0b11001011, 0b01100011], .bit4E), ([0b11001011, 0b01100100], .bit4H), ([0b11001011, 0b01100101], .bit4L),
    ([0b11001011, 0b01100110], .bit4AtHL), ([0b11001011, 0b01100111], .bit4A), ([0b11001011, 0b01101000], .bit5B),
    ([0b11001011, 0b01101001], .bit5C), ([0b11001011, 0b01101010], .bit5D), ([0b11001011, 0b01101011], .bit5E),
    ([0b11001011, 0b01101100], .bit5H), ([0b11001011, 0b01101101], .bit5L), ([0b11001011, 0b01101110], .bit5AtHL),
    ([0b11001011, 0b01101111], .bit5A), ([0b11001011, 0b01110000], .bit6B), ([0b11001011, 0b01110001], .bit6C),
    ([0b11001011, 0b01110010], .bit6D), ([0b11001011, 0b01110011], .bit6E), ([0b11001011, 0b01110100], .bit6H),
    ([0b11001011, 0b01110101], .bit6L), ([0b11001011, 0b01110110], .bit6AtHL), ([0b11001011, 0b01110111], .bit6A),
    ([0b11001011, 0b01111000], .bit7B), ([0b11001011, 0b01111001], .bit7C), ([0b11001011, 0b01111010], .bit7D),
    ([0b11001011, 0b01111011], .bit7E), ([0b11001011, 0b01111100], .bit7H), ([0b11001011, 0b01111101], .bit7L),
    ([0b11001011, 0b01111110], .bit7AtHL), ([0b11001011, 0b01111111], .bit7A)] = true := by decide

theorem test_decode_res1 : decodesTo [
    ([0b11001011, 0b10000000], .res0B), ([0b11001011, 0b10000001], .res0C), ([0b11001011, 0b10000010], .res0D),
    ([0b11001011, 0b10000011], .res0E), ([0b11001011, 0b10000100], .res0H), ([0b11001011, 0b10000101], .res0L),
    ([0b11001011, 0b10000110], .res0AtHL), ([0b11001011, 0b10000111], .res0A), ([0b11001011, 0b10001000], .res1B),
    ([0b11001011, 0b10001001], .res1C), ([0b11001011, 0b10001010], .res1D), ([0b11001011, 0b10001011], .res1E),
    ([0b11001011, 0b10001100], .res1H), ([0b11001011, 0b10001101], .res1L), ([0b11001011, 0b10001110], .res1AtHL),
    ([0b11001011, 0b10001111], .res1A), ([0b11001011, 0b10010000], .res2B), ([0b11001011, 0b10010001], .res2C),
    ([0b11001011, 0b10010010], .res2D), ([0b11001011, 0b10010011], .res2E), ([0b11001011, 0b10010100], .res2H),
    ([0b11001011, 0b10010101], .res2L), ([0b11001011, 0b10010110], .res2AtHL), ([0b11001011, 0b10010111], .res2A),
    ([0b11001011, 0b10011000], .res3B), ([0b11001011, 0b10011001], .res3C), ([0b11001011, 0b10011010], .res3D),
    ([0b11001011, 0b10011011], .res3E), ([0b11001011, 0b10011100], .res3H), ([0b11001011, 0b10011101], .res3L),
    ([0b11001011, 0b10011110], .res3AtHL), ([0b11001011, 0b10011111], .res3A)] = true := by decide

theorem test_decode_res2 : decodesTo [
    ([0b11001011, 0b10100000], .res4B), ([0b11001011, 0b10100001], .res4C), ([0b11001011, 0b10100010], .res4D),
    ([0b11001011, 0b10100011], .res4E), ([0b11001011, 0b10100100], .res4H), ([0b11001011, 0b10100101], .res4L),
    ([0b11001011, 0b10100110], .res4AtHL), ([0b11001011, 0b10100111], .res4A), ([0b11001011, 0b10101000], .res5B),
    ([0b11001011, 0b10101001], .res5C), ([0b11001011, 0b10101010], .res5D), ([0b11001011, 0b10101011], .res5E),
    ([0b11001011, 0b10101100], .res5H), ([0b11001011, 0b10101101], .res5L), ([0b11001011, 0b10101110], .res5AtHL),
    ([0b11001011, 0b10101111], .res5A), ([0b11001011, 0b10110000], .res6B), ([0b11001011, 0b10110001], .res6C),
    ([0b11001011, 0b10110010], .res6D), ([0b11001011, 0b10110011], .res6E), ([0b11001011, 0b10110100], .res6H),
    ([0b11001011, 0b10110101], .res6L), ([0b11001011, 0b10110110], .res6AtHL), ([0b11001011, 0b10110111], .res6A),
    ([0b11001011, 0b10111000], .res7B), ([0b11001011, 0b10111001], .res7C), ([0b11001011, 0b10111010], .res7D),
    ([0b11001011, 0b10111011], .res7E), ([0b11001011, 0b10111100], .res7H), ([0b11001011, 0b10111101], .res7L),
    ([0b11001011, 0b10111110], .res7AtHL), ([0b11001011, 0b10111111], .res7A)] = true := by decide

theorem test_decode_set1 : decodesTo [
    ([0b11001011, 0b11000000], .set0B), ([0b11001011, 0b11000001], .set0C), ([0b11001011, 0b11000010], .set0D),
    ([0b11001011, 0b11000011], .set0E), ([0b11001011, 0b11000100], .set0H), ([0b11001011, 0b11000101], .set0L),
    ([0b11001011, 0b11000110], .set0AtHL), ([0b11001011, 0b11000111], .set0A), ([0b11001011, 0b11001000], .set1B),
    ([0b11001011, 0b11001001], .set1C), ([0b11001011, 0b11001010], .set1D), ([0b11001011, 0b11001011], .set1E),
    ([0b11001011, 0b11001100], .set1H), ([0b11001011, 0b11001101], .set1L), ([0b11001011, 0b11001110], .set1AtHL),
    ([0b11001011, 0b11001111], .set1A), ([0b11001011, 0b11010000], .set2B), ([0b11001011, 0b11010001], .set2C),
    ([0b11001011, 0b11010010], .set2D), ([0b11001011, 0b11010011], .set2E), ([0b11001011, 0b11010100], .set2H),
    ([0b11001011, 0b11010101], .set2L), ([0b11001011, 0b11010110], .set2AtHL), ([0b11001011, 0b11010111], .set2A),
    ([0b11001011, 0b11011000], .set3B), ([0b11001011, 0b11011001], .set3C), ([0b11001011, 0b11011010], .set3D),
    ([0b11001011, 0b11011011], .set3E), ([0b11001011, 0b11011100], .set3H), ([0b11001011, 0b11011101], .set3L),
    ([0b11001011, 0b11011110], .set3AtHL), ([0b11001011, 0b11011111], .set3A)] = true := by decide

theorem test_decode_set2 : decodesTo [
    ([0b11001011, 0b11100000], .set4B), ([0b11001011, 0b11100001], .set4C), ([0b11001011, 0b11100010], .set4D),
    ([0b11001011, 0b11100011], .set4E), ([0b11001011, 0b11100100], .set4H), ([0b11001011, 0b11100101], .set4L),
    ([0b11001011, 0b11100110], .set4AtHL), ([0b11001011, 0b11100111], .set4A), ([0b11001011, 0b11101000], .set5B),
    ([0b11001011, 0b11101001], .set5C), ([0b11001011, 0b11101010], .set5D), ([0b11001011, 0b11101011], .set5E),
    ([0b11001011, 0b11101100], .set5H), ([0b11001011, 0b11101101], .set5L), ([0b11001011, 0b11101110], .set5AtHL),
    ([0b11001011, 0b11101111], .set5A), ([0b11001011, 0b11110000], .set6B), ([0b11001011, 0b11110001], .set6C),
    ([0b11001011, 0b11110010], .set6D), ([0b11001011, 0b11110011], .set6E), ([0b11001011, 0b11110100], .set6H),
    ([0b11001011, 0b11110101], .set6L), ([0b11001011, 0b11110110], .set6AtHL), ([0b11001011, 0b11110111], .set6A),
    ([0b11001011, 0b11111000], .set7B), ([0b11001011, 0b11111001], .set7C), ([0b11001011, 0b11111010], .set7D),
    ([0b11001011, 0b11111011], .set7E), ([0b11001011, 0b11111100], .set7H), ([0b11001011, 0b11111101], .set7L),
    ([0b11001011, 0b11111110], .set7AtHL), ([0b11001011, 0b11111111], .set7A)] = true := by decide

/-! ## What the decoder refuses (`30_encoding.md` R62, `20_memory.md` R36) -/

theorem test_decode_undefined : (decode [0x00]).toOption = none ∧ (decode [0xC9, 1, 2]).toOption = none ∧
    (decode [0x76]).toOption = none ∧ (decode [0xAE]).toOption = none := by decide
theorem test_decode_short : (decode [0x06]).toOption = none ∧ (decode [0x01, 0x34]).toOption = none ∧
    (decode [0xCB]).toOption = none := by decide
theorem test_table_word : decodeTableWord 24 0x123411 = some (.ldDEImm 0x1234) ∧ decodeTableWord 8 0x11 = some (.ldDEImm 0) ∧
    decodeTableWord 16 0x11CB = some .rlC ∧ decodeTableWord 8 0xC5 = some .pushBC := by decide
/-- A placed instruction is the one the next step runs: `LD DE,0x1234` after reset. -/
theorem test_withFetchWord : (stepped (State.reset.withFetchWord 24 0x123411)).pair .de = 0x1234 ∧
    (stepped (State.reset.withFetchWord 24 0x123411)).pc = 3 := by decide

/-! ## Single steps: the vectors of `95_test_vectors.md` Part 2 -/

theorem test_S1 :
    let t := stepped { at0 0x0000 [(0x0000, 0xC5)] with b := 0x12, c := 0x34, sp := 0xD000 }
    t.byteAt 0xCFFF = 0x12 ∧ t.byteAt 0xCFFE = 0x34 ∧ t.sp = 0xCFFE ∧ t.pc = 0x0001 := by decide
theorem test_S2 :
    let t := stepped { at0 0x0000 [(0x0000, 0xF5)] with a := 0x12, f := 0xFF, sp := 0xD000 }
    t.byteAt 0xCFFF = 0x12 ∧ t.byteAt 0xCFFE = 0xFF ∧ t.sp = 0xCFFE := by decide
theorem test_S3 :
    let t := stepped { at0 0x0000 [(0x0000, 0xD1), (0xCFFE, 0x34), (0xCFFF, 0x12)] with sp := 0xCFFE }
    t.d = 0x12 ∧ t.e = 0x34 ∧ t.sp = 0xD000 ∧ t.pc = 0x0001 ∧ t.byteAt 0xCFFE = 0x34 := by decide
theorem test_S4 :
    let t := stepped { at0 0x0000 [(0x0000, 0xF1), (0xCFFE, 0x9F), (0xCFFF, 0x12)] with sp := 0xCFFE }
    t.a = 0x12 ∧ t.f = 0x9F ∧ t.sp = 0xD000 := by decide
theorem test_S5 :
    let t := stepped { at0 0x0000 [(0x0000, 0xE5)] with h := 0xBE, l := 0xEF, sp := 0xFFFE }
    t.byteAt 0xFFFD = 0xBE ∧ t.byteAt 0xFFFC = 0xEF ∧ t.sp = 0xFFFC := by decide
theorem test_S5_pop :
    let t := stepped { at0 0x0000 [(0x0000, 0xE1), (0xFFFC, 0xEF), (0xFFFD, 0xBE)] with sp := 0xFFFC }
    t.h = 0xBE ∧ t.l = 0xEF ∧ t.sp = 0xFFFE := by decide
theorem test_S7 :
    let t := stepped { at0 0x0100 [(0x0100, 0xC5)] with b := 0xA1, c := 0xB2, sp := 0x0001 }
    t.byteAt 0x0000 = 0xA1 ∧ t.sp = 0x0001 ∧ t.pc = 0x0100 ∧ t.runState = .faulted ⟨.addressOutOfRange (-1), 0x0100⟩ := by decide
theorem test_S9 :
    let t := stepped { at0 0x0100 [(0x0100, 0xC1), (0xFFFF, 0x77)] with sp := 0xFFFF }
    t.b = 0x00 ∧ t.sp = 0xFFFF ∧ t.runState = .faulted ⟨.addressOutOfRange 0x10000, 0x0100⟩ := by decide
theorem test_S10 :
    let t := stepped { at0 0x0100 [(0x0100, 0xC1), (0xFFFE, 0x22), (0xFFFF, 0x11)] with sp := 0xFFFE }
    t.b = 0x11 ∧ t.c = 0x22 ∧ t.sp = 0x0000 ∧ t.pc = 0x0101 := by decide
theorem test_M1 :
    let t := stepped { at0 0x0000 [(0x0000, 0x47)] with a := 0x5A, f := 0xF0 }
    t.b = 0x5A ∧ t.f = 0xF0 ∧ t.pc = 0x0001 := by decide
theorem test_M3 :
    let t := stepped { at0 0x0000 [(0x0000, 0x65)] with h := 0x12, l := 0xCD }
    t.h = 0xCD ∧ t.l = 0xCD := by decide
theorem test_M4 :
    let t := stepped { at0 0x0000 [(0x0000, 0x08), (0x0002, 0xC1)] with sp := 0xBEEF }
    t.byteAt 0xC100 = 0xEF ∧ t.byteAt 0xC101 = 0xBE ∧ t.sp = 0xBEEF ∧ t.pc = 0x0003 := by decide
theorem test_M5 :
    let t := stepped { at0 0x0100 [(0x0100, 0x08), (0x0101, 0xFF), (0x0102, 0xFF)] with sp := 0xBEEF }
    t.byteAt 0xFFFF = 0xEF ∧ t.pc = 0x0100 ∧ t.runState = .faulted ⟨.addressOutOfRange 0x10000, 0x0100⟩ := by decide
theorem test_M6 :
    let t := stepped (at0 0x0000 [(0x0000, 0x1E), (0x0001, 0x99)])
    t.e = 0x99 ∧ t.pc = 0x0002 := by decide
theorem test_M7 :
    let t := stepped { at0 0x0000 [(0x0000, 0x36), (0x0001, 0x42)] with h := 0xC0 }
    t.byteAt 0xC000 = 0x42 ∧ t.pc = 0x0002 := by decide
theorem test_M8 :
    let t := stepped (at0 0x0000 [(0x0000, 0x11), (0x0001, 0x34), (0x0002, 0x12)])
    t.d = 0x12 ∧ t.e = 0x34 ∧ t.pc = 0x0003 := by decide
theorem test_M9 :
    let t := stepped (at0 0x0000 [(0x0000, 0x31), (0x0001, 0xFE), (0x0002, 0xFF)])
    t.sp = 0xFFFE ∧ t.pc = 0x0003 := by decide
theorem test_M10 :
    let t := stepped { at0 0x0000 [(0x0000, 0x0A), (0xC000, 0x77)] with b := 0xC0 }
    t.a = 0x77 ∧ t.pc = 0x0001 := by decide
theorem test_M11 :
    let t := stepped (at0 0x0000 [(0x0000, 0x1A)])
    t.a = 0x1A ∧ t.pc = 0x0001 := by decide
theorem test_M12 :
    let t := stepped { at0 0x0010 [(0x0010, 0x7E)] with l := 0x10 }
    t.a = 0x7E ∧ t.pc = 0x0011 := by decide
theorem test_M13 :
    let t := stepped { at0 0x0100 [(0x0100, 0x22)] with a := 0x11, h := 0xFF, l := 0xFF }
    t.byteAt 0xFFFF = 0x11 ∧ t.h = 0x00 ∧ t.l = 0x00 ∧ t.pc = 0x0101 := by decide
theorem test_M14 :
    let t := stepped { at0 0x0100 [(0x0100, 0x32)] with a := 0x11 }
    t.byteAt 0x0000 = 0x11 ∧ t.h = 0xFF ∧ t.l = 0xFF ∧ t.pc = 0x0101 := by decide
theorem test_M15 :
    let t := stepped { at0 0x0100 [(0x0100, 0x2A), (0xC0FF, 0x3C)] with h := 0xC0, l := 0xFF }
    t.a = 0x3C ∧ t.h = 0xC1 ∧ t.l = 0x00 ∧ t.pc = 0x0101 := by decide
theorem test_M16 :
    let t := stepped { at0 0x0100 [(0x0100, 0x3A), (0xC000, 0x3D)] with h := 0xC0 }
    t.a = 0x3D ∧ t.h = 0xBF ∧ t.l = 0xFF ∧ t.pc = 0x0101 := by decide
theorem test_M17 :
    let t := stepped { at0 0x0000 [(0x0000, 0xE0), (0x0001, 0x44)] with a := 0x91 }
    t.byteAt 0xFF44 = 0x91 ∧ t.pc = 0x0002 := by decide
theorem test_M18 :
    let t := stepped (at0 0x0000 [(0x0000, 0xF0), (0x0001, 0xFF), (0xFFFF, 0x1F)])
    t.a = 0x1F ∧ t.pc = 0x0002 := by decide
theorem test_M19 :
    let t := stepped { at0 0x0000 [(0x0000, 0xE2)] with a := 0x80 }
    t.byteAt 0xFF00 = 0x80 ∧ t.pc = 0x0001 := by decide
theorem test_M20 :
    let t := stepped { at0 0x0000 [(0x0000, 0xF2), (0xFF47, 0xE4)] with c := 0x47 }
    t.a = 0xE4 ∧ t.pc = 0x0001 := by decide
theorem test_M25 :
    let t := stepped { at0 0x0000 [(0x0000, 0xF2), (0xFFFF, 0x66)] with c := 0xFF }
    t.a = 0x66 ∧ t.pc = 0x0001 := by decide
theorem test_M22 :
    let t := stepped (at0 0xFFFF [(0xFFFF, 0x06)])
    t.b = 0x00 ∧ t.pc = 0xFFFF ∧ t.runState = .faulted ⟨.addressOutOfRange 0x10000, 0xFFFF⟩ := by decide
theorem test_M23 :
    let t := stepped (at0 0xFFFE [(0xFFFE, 0x01), (0xFFFF, 0x34)])
    t.b = 0x00 ∧ t.c = 0x00 ∧ t.runState = .faulted ⟨.addressOutOfRange 0x10000, 0xFFFE⟩ := by decide
theorem test_M24 :
    let t := stepped (at0 0xFFFE [(0xFFFE, 0x06), (0xFFFF, 0x77)])
    t.b = 0x77 ∧ t.pc = 0x0000 := by decide
theorem test_A2 :
    let t := stepped { at0 0x0000 [(0x0000, 0x3C)] with a := 0x0F, f := 0x10 }
    t.a = 0x10 ∧ t.f = 0x30 ∧ t.pc = 0x0001 := by decide
theorem test_A5 :
    let t := stepped { at0 0x0000 [(0x0000, 0x3C)] with a := 0xFF, f := 0x10 }
    t.a = 0x00 ∧ t.f = 0xB0 := by decide
theorem test_A6 :
    let t := stepped { at0 0x0000 [(0x0000, 0x05)] with f := 0x10 }
    t.b = 0xFF ∧ t.f = 0x70 ∧ t.pc = 0x0001 := by decide
theorem test_A7 :
    let t := stepped { at0 0x0000 [(0x0000, 0x05)] with b := 0x01, f := 0x10 }
    t.b = 0x00 ∧ t.f = 0xD0 := by decide
theorem test_A11 :
    let t := stepped { at0 0x0000 [(0x0000, 0x0D)] with c := 0x01, b := 0x55 }
    t.c = 0x00 ∧ t.b = 0x55 ∧ t.f = 0xC0 := by decide
theorem test_A12 :
    let t := stepped { at0 0x0000 [(0x0000, 0x3D)] with a := 0x20 }
    t.a = 0x1F ∧ t.f = 0x60 := by decide
theorem test_A14 :
    let t := stepped { at0 0x0000 [(0x0000, 0x24)] with h := 0x0F, l := 0xFF, f := 0xF0 }
    t.h = 0x10 ∧ t.l = 0xFF ∧ t.f = 0x30 := by decide
theorem test_A15 :
    let t := stepped { at0 0x0000 [(0x0000, 0x03)] with b := 0xFF, c := 0xFF, f := 0xF0 }
    t.b = 0x00 ∧ t.c = 0x00 ∧ t.f = 0xF0 ∧ t.pc = 0x0001 := by decide
theorem test_A16 :
    let t := stepped { at0 0x0000 [(0x0000, 0x13)] with e := 0xFF }
    t.d = 0x01 ∧ t.e = 0x00 ∧ t.f = 0x00 := by decide
theorem test_A17 :
    let t := stepped { at0 0x0000 [(0x0000, 0x23)] with h := 0x7F, l := 0xFF }
    t.h = 0x80 ∧ t.l = 0x00 ∧ t.f = 0x00 := by decide
theorem test_A18 :
    let t := stepped { at0 0x0000 [(0x0000, 0xAF)] with a := 0x5A, f := 0x70 }
    t.a = 0x00 ∧ t.f = 0x80 := by decide
theorem test_A19 :
    let t := stepped { at0 0x0000 [(0x0000, 0xA8)] with a := 0xF0, b := 0x0F, f := 0xF0 }
    t.a = 0xFF ∧ t.b = 0x0F ∧ t.f = 0x00 := by decide
theorem test_A21 :
    let t := stepped { at0 0x0000 [(0x0000, 0x17)] with a := 0x80 }
    t.a = 0x00 ∧ t.f = 0x10 ∧ t.pc = 0x0001 := by decide
theorem test_A23 :
    let t := stepped { at0 0x0000 [(0x0000, 0x17)] with a := 0x55, f := 0xF0 }
    t.a = 0xAB ∧ t.f = 0x00 := by decide
theorem test_J2 :
    let t := stepped (at0 0x0100 [(0x0100, 0x18), (0x0101, 0xFE)])
    t.pc = 0x0100 := by decide
theorem test_J6 :
    let t := stepped (at0 0xFFF0 [(0xFFF0, 0x18), (0xFFF1, 0x7F)])
    t.pc = 0x0071 := by decide
theorem test_J8 :
    let t := stepped { at0 0x0200 [(0x0200, 0x20), (0x0201, 0x10)] with f := 0x80 }
    t.pc = 0x0202 := by decide
theorem test_J9 :
    let t := stepped { at0 0x0200 [(0x0200, 0x20), (0x0201, 0x10)] with f := 0x10 }
    t.pc = 0x0212 := by decide
theorem test_J11 :
    let t := stepped { at0 0x0200 [(0x0200, 0x28), (0x0201, 0x10)] with f := 0x80 }
    t.pc = 0x0212 := by decide
theorem test_J12 :
    let t := stepped { at0 0x0200 [(0x0200, 0x28), (0x0201, 0x10)] with f := 0x10 }
    t.pc = 0x0202 := by decide
theorem test_J14 :
    let t := stepped { at0 0x0200 [(0x0200, 0x30), (0x0201, 0x10)] with f := 0x80 }
    t.pc = 0x0212 := by decide
theorem test_J15 :
    let t := stepped { at0 0x0200 [(0x0200, 0x30), (0x0201, 0x10)] with f := 0x10 }
    t.pc = 0x0202 := by decide
theorem test_J17 :
    let t := stepped { at0 0x0200 [(0x0200, 0x38), (0x0201, 0x10)] with f := 0x80 }
    t.pc = 0x0202 := by decide
theorem test_J18 :
    let t := stepped { at0 0x0200 [(0x0200, 0x38), (0x0201, 0x10)] with f := 0x10 }
    t.pc = 0x0212 := by decide
theorem test_J19 :
    let t := stepped { at0 0x0200 [(0x0200, 0xCD), (0x0201, 0x34), (0x0202, 0x12)] with sp := 0xD000 }
    t.byteAt 0xCFFF = 0x02 ∧ t.byteAt 0xCFFE = 0x03 ∧ t.sp = 0xCFFE ∧ t.pc = 0x1234 := by decide
theorem test_J21 :
    let t := stepped { at0 0x0200 [(0x0200, 0xCD), (0x0201, 0x34), (0x0202, 0x12)] with sp := 0x0001 }
    t.byteAt 0x0000 = 0x02 ∧ t.sp = 0x0001 ∧ t.pc = 0x0200 ∧ t.runState = .faulted ⟨.addressOutOfRange (-1), 0x0200⟩ := by decide
theorem test_J22 :
    let t := stepped { at0 0x1234 [(0x1234, 0xFF)] with sp := 0xD000 }
    t.byteAt 0xCFFF = 0x12 ∧ t.byteAt 0xCFFE = 0x34 ∧ t.sp = 0xCFFE ∧ t.pc = 0x0038 := by decide
theorem test_J23 :
    let t := stepped { at0 0x1234 [(0x1234, 0xFF)] with sp := 0xD000, rstPushDelta := true }
    t.byteAt 0xCFFF = 0x12 ∧ t.byteAt 0xCFFE = 0x35 ∧ t.sp = 0xCFFE ∧ t.pc = 0x0038 := by decide
theorem test_J25 :
    let t := stepped { at0 0xFFFF [(0xFFFF, 0xC7)] with sp := 0xD000, rstPushDelta := true }
    t.byteAt 0xCFFF = 0 ∧ t.byteAt 0xCFFE = 0 ∧ t.pc = 0 := by decide
theorem test_J26 :
    let t := stepped { at0 0x0150 [(0x0150, 0xD7)] with sp := 0xFFFE }
    t.byteAt 0xFFFD = 0x01 ∧ t.byteAt 0xFFFC = 0x50 ∧ t.sp = 0xFFFC ∧ t.pc = 0x0010 := by decide
theorem test_J28 :
    let t := stepped (at0 0xFFFF [(0xFFFF, 0xCB)])
    t.pc = 0xFFFF ∧ t.runState = .faulted ⟨.addressOutOfRange 0x10000, 0xFFFF⟩ := by decide
theorem test_J29 :
    let t := stepped { at0 0xFFFE [(0xFFFE, 0xCB), (0xFFFF, 0x87)] with a := 0xFF }
    t.a = 0xFE ∧ t.pc = 0x0000 := by decide
theorem test_X1 :
    let t := stepped { at0 0x0000 [(0x0000, 0xCB)] with b := 0x85 }
    t.b = 0x0B ∧ t.f = 0x10 ∧ t.pc = 0x0002 := by decide
theorem test_X2 :
    let t := stepped { at0 0x0000 [(0x0000, 0xCB)] with f := 0x10 }
    t.b = 0x00 ∧ t.f = 0x80 := by decide
theorem test_X3 :
    let t := stepped { at0 0x0000 [(0x0000, 0xCB), (0x0001, 0x09)] with c := 0x01 }
    t.c = 0x80 ∧ t.f = 0x10 := by decide
theorem test_X4 :
    let t := stepped { at0 0x0000 [(0x0000, 0xCB), (0x0001, 0x12)] with d := 0x80 }
    t.d = 0x00 ∧ t.f = 0x90 := by decide
theorem test_X5 :
    let t := stepped { at0 0x0000 [(0x0000, 0xCB), (0x0001, 0x12)] with f := 0x10 }
    t.d = 0x01 ∧ t.f = 0x00 := by decide
theorem test_X6 :
    let t := stepped { at0 0x0000 [(0x0000, 0xCB), (0x0001, 0x1B)] with e := 0x01 }
    t.e = 0x00 ∧ t.f = 0x90 := by decide
theorem test_X7 :
    let t := stepped { at0 0x0000 [(0x0000, 0xCB), (0x0001, 0x1B)] with f := 0x10 }
    t.e = 0x80 ∧ t.f = 0x00 := by decide
theorem test_X8 :
    let t := stepped { at0 0x0000 [(0x0000, 0xCB), (0x0001, 0x24)] with h := 0x80, f := 0x10 }
    t.h = 0x00 ∧ t.f = 0x90 := by decide
theorem test_X10 :
    let t := stepped { at0 0x0000 [(0x0000, 0xCB), (0x0001, 0x2D)] with l := 0x81 }
    t.l = 0xC0 ∧ t.f = 0x10 := by decide
theorem test_X12 :
    let t := stepped { at0 0x0000 [(0x0000, 0xCB), (0x0001, 0x3F)] with a := 0x81 }
    t.a = 0x40 ∧ t.f = 0x10 := by decide
theorem test_X14 :
    let t := stepped { at0 0x0000 [(0x0000, 0xCB), (0x0001, 0x06), (0xC000, 0x80)] with h := 0xC0 }
    t.byteAt 0xC000 = 0x01 ∧ t.f = 0x10 ∧ t.pc = 0x0002 := by decide
theorem test_X15 :
    let t := stepped { at0 0x0000 [(0x0000, 0xCB), (0x0001, 0x3E), (0xC000, 0xFF)] with h := 0xC0 }
    t.byteAt 0xC000 = 0x7F ∧ t.f = 0x10 := by decide
theorem test_X16 :
    let t := stepped { at0 0x0000 [(0x0000, 0xCB), (0x0001, 0x7C)] with h := 0x80, f := 0x50 }
    t.h = 0x80 ∧ t.f = 0x30 ∧ t.pc = 0x0002 := by decide
theorem test_X17 :
    let t := stepped { at0 0x0000 [(0x0000, 0xCB), (0x0001, 0x7C)] with h := 0x7F, l := 0xFF, f := 0x50 }
    t.f = 0xB0 := by decide
theorem test_X18 :
    let t := stepped { at0 0x0000 [(0x0000, 0xCB), (0x0001, 0x46), (0xC000, 0xFE)] with h := 0xC0 }
    t.f = 0xA0 ∧ t.byteAt 0xC000 = 0xFE := by decide
theorem test_X20 :
    let t := stepped { at0 0x0000 [(0x0000, 0xCB), (0x0001, 0x80)] with b := 0xFF, f := 0xF0 }
    t.b = 0xFE ∧ t.f = 0xF0 := by decide
theorem test_X21 :
    let t := stepped { at0 0x0000 [(0x0000, 0xCB), (0x0001, 0xBE), (0xC000, 0xFF)] with h := 0xC0 }
    t.byteAt 0xC000 = 0x7F ∧ t.f = 0x00 := by decide
theorem test_X22 :
    let t := stepped (at0 0x0000 [(0x0000, 0xCB), (0x0001, 0xFF)])
    t.a = 0x80 ∧ t.f = 0x00 := by decide
theorem test_X23 :
    let t := stepped { at0 0x0000 [(0x0000, 0xCB), (0x0001, 0xDE)] with h := 0xC0, f := 0xF0 }
    t.byteAt 0xC000 = 0x08 ∧ t.f = 0xF0 := by decide
theorem test_X24 :
    let t := stepped { at0 0x0100 [(0x0100, 0xCB), (0x0101, 0x30)] with b := 0x12 }
    t.b = 0x12 ∧ t.pc = 0x0100 ∧ t.runState = .faulted ⟨.unimplementedOpcode 0x30, 0x0100⟩ := by decide
theorem test_U2 :
    let t := stepped { at0 0x0100 [(0x0100, 0xC9)] with a := 0x11, sp := 0xD000 }
    t.a = 0x11 ∧ t.sp = 0xD000 ∧ t.pc = 0x0100 ∧ t.runState = .faulted ⟨.unimplementedOpcode 0xC9, 0x0100⟩ := by decide
theorem test_F3 :
    let t := stepped (at0 0xFFFF [])
    t.pc = 0xFFFF ∧ t.runState = .faulted ⟨.unimplementedOpcode 0x00, 0xFFFF⟩ := by decide
/-- F1: the next host sample is false, so one instruction runs and the step after it stops. -/
theorem test_F1 :
    let t := stepped { at0 0 [(0, 0x3C), (1, 0x3C)] with hostNext := [⟨false, false⟩] }
    t.a = 1 ∧ t.pc = 1 ∧ t.runFlag = false ∧ (stepped t).runState = .stopped ∧ (stepped t).a = 1 := by decide
theorem test_F2 : (stepped { at0 0 [] with runFlag := false }).runState = .stopped := by decide
theorem test_F4 : stepped { at0 0 [] with runState := .faulted ⟨.unimplementedOpcode 0, 0⟩ } =
    { at0 0 [] with runState := .faulted ⟨.unimplementedOpcode 0, 0⟩ } := by decide
/-- Reset with nothing loaded: the first step meets the undefined byte 0x00 (log entry 8). -/
theorem test_reset_step : (stepped State.reset).runState = .faulted ⟨.unimplementedOpcode 0, 0⟩ := by decide
/-- The ROM loader and its first instruction (`95_test_vectors.md` P1, step 1). -/
theorem test_loadRom : (loadRom [0x3E, 0x05, 0x3C, 0x3C] State.reset).mem = [(0, 0x3E), (1, 5), (2, 0x3C), (3, 0x3C)] ∧
    (stepped (loadRom [0x3E, 0x05, 0x3C, 0x3C] State.reset)).a = 5 := by decide
/-- Writing the byte an unlisted address reads as removes the entry. -/
theorem test_canonical : writeCell [(3, 1), (5, 2)] 3 0 = [(5, 2)] ∧ writeCell [(3, 1)] 2 7 = [(2, 7), (3, 1)] ∧
    Memory.wf [(5, 1), (3, 1)] = false ∧ Memory.wf [(3, 0)] = false ∧ Memory.wf [(65536, 1)] = false := by decide
theorem test_traceLine : traceLine (at0 0x10 [(0x10, 0x7E)]) = some ⟨0x10, 0x7E, some .ldAFromAtHL⟩ ∧
    traceLine { at0 0 [] with runFlag := false } = none := by decide
theorem test_reports : exitsNonZero (stepped State.reset) = true ∧ exitsNonZero State.reset = false ∧
    (finalReport { State.reset with runState := .stopped }).isSome = true := by decide

/-! ## Witnesses: a state and operands that meet the premises of each statement, each clause at its boundary -/

/-- A state with something in memory and in every register. -/
def w : State :=
  { State.reset with
    b := 0x12, c := 0x34, d := 0xC0, e := 0x01, h := 0xC0, l := 0x00, a := 0x5A, f := 0x9F, pc := 0x0100, sp := 0x0002
    mem := [(0x0100, 0x36), (0x0101, 0xC9), (0xC000, 0x81)] }

theorem witness_PushStoresPair : (Memory.wf w.mem = true ∧ 2 ≤ w.sp.toNat) ∧ { w with sp := 0 }.sp.toNat ≤ 1 ∧
    { w with sp := 1 }.sp.toNat ≤ 1 := by decide
theorem witness_PopLoadsPair : { w with sp := 0xFFFE }.sp.toNat < 0xFFFF ∧ { w with sp := 0xFFFF }.sp.toNat = 0xFFFF ∧
    (Pair.af = .af ∧ Pair.bc ≠ .af) := by decide
theorem witness_PushThenPopRestores : Memory.wf w.mem = true ∧ 2 ≤ w.sp.toNat := by decide
/-- The premise of every statement whose only premise is a canonical memory. -/
theorem witness_canonical : Memory.wf w.mem = true ∧ w.mem ≠ [] := by decide
theorem witness_LdAtImmStoresStackPointer : (Memory.wf w.mem = true ∧ (0xFFFE : Word).toNat < 0xFFFF) ∧
    (0xFFFF : Word).toNat = 0xFFFF := by decide
theorem witness_HighPageRoundTrip :
    exec (.ldHighImmFromA 0xFF) w = .next (after (exec (.ldHighImmFromA 0xFF) w)) ∧
    exec .ldHighCFromA w = .next (after (exec .ldHighCFromA w)) ∧ Memory.wf w.mem = true ∧
    (after (exec .ldHighCFromA w)).reg .c = w.reg .c := ⟨exec_after _ _, exec_after _ _, by decide, by decide⟩
theorem witness_JrCondJumpsWhenFlagHolds :
    let rows := [(Cond.nz, w.flagZ, false), (.z, w.flagZ, true), (.nc, w.flagC, false), (.c, w.flagC, true)]
    (Cond.nz, true, false) ∈ rows ∧ (Cond.z, true, true) ∈ rows ∧ (Cond.nc, true, false) ∈ rows ∧
    (Cond.c, true, true) ∈ rows := by decide
theorem witness_CallPushesReturnAddress : (Memory.wf w.mem = true ∧ 2 ≤ w.sp.toNat) ∧ { w with sp := 1 }.sp.toNat ≤ 1 ∧
    { w with sp := 0 }.sp.toNat ≤ 1 := by decide
theorem witness_RstPushesAndJumpsToVector : (Memory.wf w.mem = true ∧ 2 ≤ w.sp.toNat) ∧
    { w with sp := 1, rstPushDelta := true }.sp.toNat ≤ 1 ∧ { w with sp := 0 }.sp.toNat ≤ 1 := by decide
theorem witness_PrefixRunsExtendedRow : encode (extInstr (.shift .rlc (.reg .b))) = [0xCB, 0x00] ∧
    encode (extInstr (.set .i7 (.reg .a))) = [0xCB, 0xFF] ∧
    (0x30 ≤ (0x30 : Byte).toNat ∧ (0x30 : Byte).toNat ≤ 0x37) ∧ (0x30 ≤ (0x37 : Byte).toNat ∧ (0x37 : Byte).toNat ≤ 0x37) := by
  decide
theorem witness_PrefixCompletesWithEntry : ¬ (0x30 ≤ (0x2F : Byte).toNat ∧ (0x2F : Byte).toNat ≤ 0x37) ∧
    ¬ (0x30 ≤ (0x38 : Byte).toNat ∧ (0x38 : Byte).toNat ≤ 0x37) := by decide
theorem witness_LeftShiftsOnRegister :
    let rows := [(ShiftOp.rlc, (w.reg .a).getLsbD 7), (.rl, w.flagC), (.sla, false)]
    (ShiftOp.rlc, false) ∈ rows ∧ (ShiftOp.rl, true) ∈ rows ∧ (ShiftOp.sla, false) ∈ rows := by decide
theorem witness_RightShiftsOnRegister :
    let rows := [(ShiftOp.rrc, (w.reg .a).getLsbD 0), (.rr, w.flagC), (.sra, (w.reg .a).getLsbD 7), (.srl, false)]
    (ShiftOp.rrc, false) ∈ rows ∧ (ShiftOp.rr, true) ∈ rows ∧ (ShiftOp.sra, false) ∈ rows ∧ (ShiftOp.srl, false) ∈ rows := by
  decide
theorem witness_LeftShiftsAtHL : Memory.wf w.mem = true ∧
    let v := w.byteAt (addrOf (w.pair .hl)).toNat
    let rows := [(ShiftOp.rlc, v.getLsbD 7), (.rl, w.flagC), (.sla, false)]
    (ShiftOp.rlc, true) ∈ rows ∧ (ShiftOp.rl, true) ∈ rows ∧ (ShiftOp.sla, false) ∈ rows := by decide
theorem witness_RightShiftsAtHL : Memory.wf w.mem = true ∧
    let v := w.byteAt (addrOf (w.pair .hl)).toNat
    let rows := [(ShiftOp.rrc, v.getLsbD 0), (.rr, w.flagC), (.sra, v.getLsbD 7), (.srl, false)]
    (ShiftOp.rrc, true) ∈ rows ∧ (ShiftOp.rr, true) ∈ rows ∧ (ShiftOp.sra, true) ∈ rows ∧ (ShiftOp.srl, false) ∈ rows := by
  decide
theorem witness_ResAndSetOnRegister :
    let rows := [(resInstr .i7 (.reg .a), false), (setInstr .i7 (.reg .a), true)]
    (Instr.res7A, false) ∈ rows ∧ (Instr.set7A, true) ∈ rows := by decide
theorem witness_ResAndSetAtHL : Memory.wf w.mem = true ∧
    let rows := [(resInstr .i0 .atHL, false), (setInstr .i0 .atHL, true)]
    (Instr.res0AtHL, false) ∈ rows ∧ (Instr.set0AtHL, true) ∈ rows := by decide

/-- The premise `exec i s = .next t` of OnlyFlagInstructionsWriteF, OnlyCarryInstructionsWriteC,
OnlyStackInstructionsWriteSP, OnlyStoresWriteMemory and NoInstructionWritesHostFlags: an instruction of each disjunct and
one of none. -/
theorem witness_exec_next : exec .ldBFromA w = .next (after (exec .ldBFromA w)) ∧
    exec .incB w = .next (after (exec .incB w)) ∧ exec .rlaAcc w = .next (after (exec .rlaAcc w)) ∧
    exec .popAF w = .next (after (exec .popAF w)) ∧ exec .rlcB w = .next (after (exec .rlcB w)) ∧
    exec .bit0B w = .next (after (exec .bit0B w)) ∧ exec .pushBC w = .next (after (exec .pushBC w)) ∧
    exec .xorA w = .next (after (exec .xorA w)) ∧
    exec (.prefixCB 0x30) w = .next (after (exec (.prefixCB 0x30) w)) :=
  ⟨exec_after _ _, exec_after _ _, exec_after _ _, exec_after _ _, exec_after _ _, exec_after _ _, exec_after _ _,
    exec_after _ _, exec_after _ _⟩
theorem witness_OnlyPopAFWritesLowF : exec .pushAF w = .next (after (exec .pushAF w)) ∧ Instr.pushAF ≠ .popAF :=
  ⟨exec_after _ _, by decide⟩
/-- One instruction of each clause of PcRuleOfEveryInstruction, RUNNING before and after; Z and C are 1 in w. -/
theorem witness_PcRuleOfEveryInstruction : w.runState = .running ∧
    (exec (.jr 0x80) w = .next (after (exec (.jr 0x80) w)) ∧ (after (exec (.jr 0x80) w)).runState = .running) ∧
    (exec (jrCondInstr .z 2) w = .next (after (exec (jrCondInstr .z 2) w)) ∧ condHolds w .z = true ∧
      (after (exec (jrCondInstr .z 2) w)).runState = .running) ∧
    (exec (jrCondInstr .nc 2) w = .next (after (exec (jrCondInstr .nc 2) w)) ∧ condHolds w .nc = false ∧
      (after (exec (jrCondInstr .nc 2) w)).runState = .running) ∧
    (exec (.call 0xFFFF) w = .next (after (exec (.call 0xFFFF) w)) ∧ (after (exec (.call 0xFFFF) w)).runState = .running) ∧
    (exec (rstInstr .i7) w = .next (after (exec (rstInstr .i7) w)) ∧
      (after (exec (rstInstr .i7) w)).runState = .running) :=
  ⟨by decide, ⟨exec_after _ _, by decide⟩, ⟨exec_after _ _, by decide, by decide⟩,
    ⟨exec_after _ _, by decide, by decide⟩, ⟨exec_after _ _, by decide⟩, ⟨exec_after _ _, by decide⟩⟩
/-- The last clause of PcRuleOfEveryInstruction: an instruction that is none of the four. -/
theorem witness_PcRule_other : exec .set3AtHL w = .next (after (exec .set3AtHL w)) ∧
    (after (exec .set3AtHL w)).runState = .running ∧ (∀ e, Instr.set3AtHL ≠ .jr e) ∧
    (∀ cc e, Instr.set3AtHL ≠ jrCondInstr cc e) ∧ (∀ nn, Instr.set3AtHL ≠ .call nn) ∧ (∀ k, Instr.set3AtHL ≠ rstInstr k) :=
  ⟨exec_after _ _, by decide, fun _ h => (nomatch h), fun cc _ h => (by cases cc <;> cases h), fun _ h => (nomatch h),
    fun k h => (by cases k <;> cases h)⟩
theorem witness_NoInstructionReadsControlState :
    SameProgramState w { w with runState := .stopped, runFlag := false, stepAck := true, hostNext := [⟨true, true⟩] } ∧
    exec .popAF w = .next (after (exec .popAF w)) :=
  ⟨⟨fun r _ => by cases r <;> rfl, rfl, rfl, rfl, rfl, rfl⟩, exec_after _ _⟩
/-- States that meet the invariant: RUNNING, faulted on an undefined byte, after a prefix, and on an address. -/
theorem witness_EveryStepKeepsTheInvariant : StateInv w ∧ step w = .next (stepped w) ∧
    StateInv { at0 0xFFFF [] with runState := .faulted ⟨.unimplementedOpcode 0, 0xFFFF⟩ } ∧
    StateInv { at0 0xFFFE [(0xFFFE, 0xCB), (0xFFFF, 0x37)] with runState := .faulted ⟨.unimplementedOpcode 0x37, 0xFFFE⟩ } ∧
    StateInv { at0 5 [] with runState := .faulted ⟨.addressOutOfRange (-1), 5⟩ } := by
  refine ⟨⟨by decide, fun r h => (nomatch h)⟩, rfl, ⟨by decide, fun r h => ?_⟩, ⟨by decide, fun r h => ?_⟩,
    ⟨by decide, fun r h => ?_⟩⟩
  · cases h
    exact ⟨rfl, .inl (by decide)⟩
  · cases h
    exact ⟨rfl, .inr (by decide)⟩
  · cases h
    exact ⟨rfl, .inl rfl⟩
theorem witness_RomLoaderFillsMemory : Memory.wf w.mem = true ∧ [0x3E, 0x05, (0 : Byte)].length ≤ 65536 ∧
    2 < [0x3E, 0x05, (0 : Byte)].length ∧ [0x3E, 0x05, (0 : Byte)].length ≤ 3 := by decide
theorem witness_StoppedRunResumesFromSnapshot : w.runState = .running ∧ { w with runFlag := false }.runState = .running ∧
    { w with runFlag := false }.runFlag = false := by decide
theorem witness_DecodeInvertsEncode : WellFormed (.prefixCB 0x30) = true ∧ WellFormed (.call 0xFFFF) = true := by decide
theorem witness_EncodeInvertsDecode : (decode [0x01, 0xFF, 0x00, 0x77]).toOption = some (.ldBCImm 0x00FF, [0x77]) := by decide
theorem witness_StepRunsDecodedInstruction : AboutToFetch w ∧
    (decode (fetchBytes w)).toOption = some (.ldAtHLImm 0xC9, [0x00]) := ⟨⟨rfl, rfl⟩, by decide⟩
theorem witness_HostTurnTakesTheNextSample : w.hostNext = [] ∧
    { w with hostNext := [⟨false, true⟩] }.hostNext = ⟨false, true⟩ :: [] ∧ (⟨false, true⟩ : HostSample).raiseStepAck = true := by
  decide
theorem witness_UndefinedOpcodeFaultsCleanly : AboutToFetch (at0 0xFFFF []) ∧
    undefinedPrimary ((at0 0xFFFF []).byteAt 0xFFFF) = true ∧
    let u := at0 0xFFFE [(0xFFFE, 0xCB), (0xFFFF, 0x30)]
    AboutToFetch u ∧ u.byteAt u.pc.toNat = 0xCB ∧ u.pc.toNat < 0xFFFF ∧ 0x30 ≤ (u.byteAt (u.pc.toNat + 1)).toNat ∧
      (u.byteAt (u.pc.toNat + 1)).toNat ≤ 0x37 :=
  ⟨⟨rfl, rfl⟩, by decide, ⟨rfl, rfl⟩, by decide⟩
theorem witness_OperandOffTheEndFaults :
    (AboutToFetch (at0 0xFFFF [(0xFFFF, 0x06)]) ∧ 2 ≤ primaryLength ((at0 0xFFFF [(0xFFFF, 0x06)]).byteAt 0xFFFF)) ∧
    (AboutToFetch (at0 0xFFFF [(0xFFFF, 0xCD)]) ∧ 2 ≤ primaryLength ((at0 0xFFFF [(0xFFFF, 0xCD)]).byteAt 0xFFFF)) ∧
    (AboutToFetch (at0 0xFFFE [(0xFFFE, 0xCD)]) ∧ primaryLength ((at0 0xFFFE [(0xFFFE, 0xCD)]).byteAt 0xFFFE) = 3) :=
  ⟨⟨⟨rfl, rfl⟩, by decide⟩, ⟨⟨rfl, rfl⟩, by decide⟩, ⟨⟨rfl, rfl⟩, by decide⟩⟩
theorem witness_RunStateRules : ({ w with runFlag := false }.runState = .running ∧ { w with runFlag := false }.runFlag = false) ∧
    { w with runState := .stopped }.runState ≠ .running ∧
    { w with runState := .faulted ⟨.unimplementedOpcode 0, 0⟩ }.runState ≠ .running ∧ AboutToFetch w :=
  ⟨by decide, by decide, by decide, rfl, rfl⟩
/-- HL right after `LD (HL),n`, the byte stored undefined. -/
theorem witness_FetchSeesEarlierStores :
    let u := { w with h := 0x01, l := 0x02 }
    Memory.wf u.mem = true ∧ u.runState = .running ∧ u.pair .hl = u.pc + 2 ∧ u.runFlag = true ∧
      undefinedPrimary 0xC9 = true := by decide
/-- Each kind of stored byte of w, with SP 2 and nn 0xFFFE at the boundaries. -/
theorem witness_EveryStoreIsSeenByLaterFetches : Memory.wf w.mem = true ∧ w.runState = .running ∧
    StoresByte w .pushAF 1 0x5A ∧ StoresByte w .pushAF 0 0x9F ∧ StoresByte w (.call 0xFFFF) 1 0x01 ∧
    StoresByte w (.call 0xFFFF) 0 0x03 ∧ StoresByte w .rst38 1 0x01 ∧ StoresByte w .rst38 0 0x00 ∧
    StoresByte w (.ldAtImmFromSP 0xFFFE) 0xFFFE 0x02 ∧ StoresByte w (.ldAtImmFromSP 0xFFFE) 0xFFFF 0x00 ∧
    StoresByte w (.ldAtHLImm 0xC9) 0xC000 0xC9 ∧ StoresByte w .ldAtHLIncFromA 0xC000 0x5A ∧
    StoresByte w .ldAtHLDecFromA 0xC000 0x5A ∧ StoresByte w (.ldHighImmFromA 0xFF) 0xFFFF 0x5A ∧
    StoresByte w .ldHighCFromA 0xFF34 0x5A ∧ StoresByte w .rlcAtHL 0xC000 0x03 ∧ StoresByte w .res0AtHL 0xC000 0x80 ∧
    StoresByte w .set1AtHL 0xC000 0x83 ∧ StoresByte w (.prefixCB 0x06) 0xC000 0x03 :=
  ⟨by decide, rfl, .pushHigh .af (by decide), .pushLow .af (by decide), .callHigh _ (by decide), .callLow _ (by decide),
    .rstHigh .i7 (by decide), .rstLow .i7 (by decide), .spLow _ (by decide), .spHigh _ (by decide), .atHLImm _, .atHLInc,
    .atHLDec, .highImm _, .highC, .shift .rlc, .res .i0, .set .i1,
    .prefixed (op := .shift .rlc .atHL) (by decide) (.shift .rlc)⟩
/-- A later state about to fetch the byte that `LD (HL),0xC9` stored at 0xC000, as opcode; and one that fetches it as the
third byte. -/
theorem witness_EveryStoreIsSeenByLaterFetches_later :
    let t := after (exec (.ldAtHLImm 0xC9) w)
    let u := { t with pc := 0xC000 }
    u.byteAt 0xC000 = t.byteAt 0xC000 ∧ (u.runState = .running ∧ u.runFlag = true) ∧ u.pc.toNat = 0xC000 ∧
      undefinedPrimary 0xC9 = true ∧ { t with pc := 0xBFFE }.pc.toNat + 2 = 0xC000 := by decide

end Sys2Proof.Tests
end

/-! PROOFS. The register load, the loads of A through a pair and the stepping stores of A (`42_loads.md` R85, R91 to R94).
The frame of an instruction is put together from the frames of the state updates it makes. -/

namespace Sys2Proof.Machine

/-! ## Frames of the state updates -/

/-- One update after another may write what either may write. -/
theorem Frame.trans {rs rs' : List Reg} {as as' : List Nat} {s t u : State} (hst : Frame rs as s t)
    (htu : Frame rs' as' t u) : Frame (rs ++ rs') (as ++ as') s u := by
  obtain ⟨hreg, hmem, hrun, hflag, hack, hnext, hdelta, hindex⟩ := hst
  obtain ⟨hreg', hmem', hrun', hflag', hack', hnext', hdelta', hindex'⟩ := htu
  refine ⟨fun r hr => ?_, fun x hx => ?_, hrun'.trans hrun, hflag'.trans hflag, hack'.trans hack, hnext'.trans hnext,
    hdelta'.trans hdelta, hindex'.trans hindex⟩
  · rw [List.mem_append, not_or] at hr
    exact (hreg' r hr.2).trans (hreg r hr.1)
  · rw [List.mem_append, not_or] at hx
    exact (hmem' x hx.2).trans (hmem x hx.1)

theorem frame_advance (s : State) (n : Word) : Frame [] [] s (s.advance n) := by
  simp [Frame, SameRegsExcept, SameMemoryExcept, SameControl]

theorem frame_setReg (s : State) (r : Reg) (v : Byte) : Frame [r] [] s (s.setReg r v) :=
  ⟨fun _ hr => s.reg_setReg_of_ne v (List.ne_of_not_mem_cons hr), by simp [SameMemoryExcept], by simp [SameControl]⟩

theorem frame_setPair (s : State) (p : Pair) (v : Word) : Frame (regsOf p) [] s (s.setPair p v) :=
  ⟨fun _ hr => s.reg_setPair_of_not_mem v hr, by simp [SameMemoryExcept], by simp [SameControl]⟩

theorem frame_store (s : State) (a : Nat) (v : Byte) : Frame [] [a] s (s.store a v) :=
  ⟨by simp [SameRegsExcept], fun _ hx => byteAt_store_other s v (List.ne_of_not_mem_cons hx), by simp [SameControl]⟩

/-! ## What the shared operations of the loads do -/

/-- A load of A at the value of a pair never faults (`20_memory.md` R36). -/
theorem loadA_addrOf (v : Word) (len : Word) (s : State) :
    loadA (addrOf v) len s = .next ((s.setReg .a (s.byteAt v.toNat)).advance len) :=
  withRead_addrOf v s _

/-- The store at HL never faults, and it leaves HL as it was for the step (`42_loads.md` R93, R94). -/
theorem storeAStepHL_eq (delta : Word) (s : State) :
    storeAStepHL delta s =
      .next (((s.store (s.pair .hl).toNat (s.reg .a)).setPair .hl (s.pair .hl + delta)).advance 1) := by
  rw [storeAStepHL, withWrite_addrOf, State.pair_store]

/-- `LD (HL+),A` and `LD (HL-),A` for any step of HL (`42_loads.md` R93, R94). -/
theorem storeAStepHL_stores_then_steps {s : State} (hwf : Memory.wf s.mem = true) (delta : Word) :
    ∃ t, storeAStepHL delta s = .next t ∧ t.byteAt (addrOf (s.pair .hl)).toNat = s.reg .a ∧
      t.pair .hl = s.pair .hl + delta ∧ t.f = s.f ∧ t.sp = s.sp ∧ t.pc = s.pc + 1 ∧
      Frame [.h, .l] [(addrOf (s.pair .hl)).toNat] s t := by
  rw [toNat_addrOf]
  refine ⟨_, storeAStepHL_eq delta s, ?_, by simp, by simp, by simp, by simp, ?_⟩
  · rw [State.byteAt_advance, State.byteAt_setPair]
    exact byteAt_store_same hwf _ _
  · exact ((frame_store s _ _).trans (frame_setPair _ .hl _)).trans (frame_advance _ 1)

/-! ## The obligations -/

/-- Settles O10: both rows are `storeAStepHL`, with the steps 1 and -1. -/
theorem autoStepStoresThenStepsHL : Obligations.AutoStepStoresThenStepsHL := by
  intro s hwf
  rw [exec_ldAtHLIncFromA, exec_ldAtHLDecFromA, BitVec.sub_eq_add_neg]
  exact ⟨storeAStepHL_stores_then_steps hwf 1, storeAStepHL_stores_then_steps hwf (-1)⟩

/-- Settles O4: the row is one register write and the advance of PC. -/
theorem ldRegCopiesRegister : Obligations.LdRegCopiesRegister := by
  intro r r' s
  refine ⟨_, exec_ldInstr r r' s, by simp, by simp, by simp, by simp, ?_⟩
  exact (frame_setReg s r _).trans (frame_advance _ 1)

/-- Settles O9: the address is the value of a pair, so the read cannot fault. -/
theorem ldAFromPairAddressLoads : Obligations.LdAFromPairAddressLoads := by
  intro p s
  rw [exec_ldAFromAtInstr]
  refine ⟨_, loadA_addrOf _ 1 s, by simp, by simp, by simp, by simp, ?_⟩
  exact (frame_setReg s .a _).trans (frame_advance _ 1)

end Sys2Proof.Machine

/-! PROOFS. Exclusive-or and the accumulator rotate (`43_arith_logic.md` R114, R115). Both write a register and all four
flags; what such a row leaves unchanged is said once, and the rest is the value it writes. -/

namespace Sys2Proof.Machine

/-! ## Writing all four flags -/

theorem frame_setZNHC (s : State) (z n h c : Bool) : Frame [] [] s (s.setZNHC z n h c) := by
  simp [Frame, SameRegsExcept, SameMemoryExcept, SameControl]

/-- A row that writes one register and all four flags (`10_state.md` R15, R18). -/
theorem frame_setReg_setZNHC_advance (s : State) (r : Reg) (v : Byte) {z n h c : Bool} (len : Word) :
    Frame [r] [] s (((s.setReg r v).setZNHC z n h c).advance len) :=
  ((frame_setReg s r v).trans (frame_setZNHC _ z n h c)).trans (frame_advance _ len)

theorem sameLowF_setReg_setZNHC_advance (s : State) (r : Reg) (v : Byte) {z n h c : Bool} (len : Word) :
    SameLowF s (((s.setReg r v).setZNHC z n h c).advance len) := by
  intro i hi
  rw [State.f_advance, State.lowF_setZNHC _ z n h c hi, State.f_setReg]

/-! ## The value shifted in -/

/-- Setting bit 0 of the shifted byte is shifting that bit in. -/
theorem shiftLeftIn_eq_shiftConcat (old : Byte) (cin : Bool) : shiftLeftIn old cin = old.shiftConcat cin := by
  refine BitVec.eq_of_getLsbD_eq fun i hi => ?_
  rw [shiftLeftIn, getLsbD_putBit _ _ (by decide), BitVec.getLsbD_shiftConcat]
  cases i with
  | zero => rfl
  | succ i => simp [hi, BitVec.getLsbD_eq_getElem (Nat.lt_of_succ_lt hi)]

/-- `wrap8(old * 2) | cin` as arithmetic (`43_arith_logic.md` R115): the doubled byte is even, so the bit added
does not wrap. -/
theorem toNat_shiftLeftIn (old : Byte) (cin : Bool) :
    (shiftLeftIn old cin).toNat = old.toNat * 2 % 256 + cin.toNat := by
  have hcin : cin.toNat ≤ 1 := cin.toNat_le
  rw [shiftLeftIn_eq_shiftConcat, BitVec.toNat_shiftConcat, Nat.shiftLeft_eq]
  omega

theorem isZero_eq_decide (v : Byte) : isZero v = decide (v = 0) := rfl

/-! ## The obligations -/

/-- Settles O19: the new A is a bitwise exclusive-or by definition, and with A itself it is 0. -/
theorem xorRegSetsAllFlags : Obligations.XorRegSetsAllFlags := by
  intro r s
  refine ⟨_, exec_xorInstr r s, fun i _ => ?bits, ?z, by simp, by simp, by simp, ?self,
    sameLowF_setReg_setZNHC_advance s .a _ 1, by simp, by simp, frame_setReg_setZNHC_advance s .a _ 1⟩
  case bits => simp
  case z => simp [isZero_eq_decide]
  case self =>
    rintro rfl
    simp [isZero_eq_decide]

/-- Settles O20: A is the byte with the old C shifted in, and Z is cleared whatever it is. -/
theorem rlaRotatesThroughCarry : Obligations.RlaRotatesThroughCarry := by
  intro s
  refine ⟨_, exec_rlaAcc s, ?value, by simp, by simp, by simp, by simp,
    sameLowF_setReg_setZNHC_advance s .a _ 1, by simp, by simp, frame_setReg_setZNHC_advance s .a _ 1⟩
  case value => simpa using toNat_shiftLeftIn (s.reg .a) s.flagC

end Sys2Proof.Machine

/-! PROOFS. The decoder and the encoder (`30_encoding.md` R50 to R62). The primary table is read through `primaryRow`, the
extended table through `extRow` and its converse here, that every extended operation has a byte. -/

namespace Sys2Proof.Machine

/-! ## The bytes of an extended operation -/

/-- Every extended operation has a byte that selects it, and its row is 0xCB and that byte (`30_encoding.md` R60). -/
theorem exists_extByte (op : ExtOp) : ∃ ext, encode (extInstr op) = [0xCB, ext] ∧ extOpOfByte ext = some op := by
  cases op with
  | shift o x =>
    cases x with
    | reg r => cases o <;> cases r <;> exact ⟨_, rfl, rfl⟩
    | atHL => cases o <;> exact ⟨_, rfl, rfl⟩
  | bit b x =>
    cases x with
    | reg r => cases b <;> cases r <;> exact ⟨_, rfl, rfl⟩
    | atHL => cases b <;> exact ⟨_, rfl, rfl⟩
  | res b x =>
    cases x with
    | reg r => cases b <;> cases r <;> exact ⟨_, rfl, rfl⟩
    | atHL => cases b <;> exact ⟨_, rfl, rfl⟩
  | set b x =>
    cases x with
    | reg r => cases b <;> cases r <;> exact ⟨_, rfl, rfl⟩
    | atHL => cases b <;> exact ⟨_, rfl, rfl⟩

/-- The byte in the encoding of an extended row is the one that selects its operation. -/
theorem encode_extInstr_iff {op : ExtOp} {ext : Byte} :
    encode (extInstr op) = [0xCB, ext] ↔ extOpOfByte ext = some op := by
  constructor
  · intro henc
    obtain ⟨ext', henc', hsel⟩ := exists_extByte op
    obtain rfl : ext' = ext := by simpa [henc'] using henc
    exact hsel
  · intro hsel
    have hrow := (extRow ext).1
    rwa [extInstrOfByte, hsel] at hrow

/-- A byte has no extended operation exactly when it is 0x30 to 0x37 (`30_encoding.md` R62). -/
theorem extOpOfByte_eq_none_iff : ∀ {ext : Byte}, extOpOfByte ext = none ↔ 0x30 ≤ ext.toNat ∧ ext.toNat ≤ 0x37 := by
  decide

theorem extUndefined_iff {ext : Byte} : extUndefined ext = true ↔ 0x30 ≤ ext.toNat ∧ ext.toNat ≤ 0x37 := by
  simp [extUndefined]

/-! ## The row `prefixCB` by its byte (`44_control.md` R124) -/

theorem exec_prefixCB_of_entry {ext : Byte} {op : ExtOp} (h : extOpOfByte ext = some op) (s : State) :
    exec (.prefixCB ext) s = runExt op s := by
  rw [exec_prefixCB, h]

theorem exec_prefixCB_of_noEntry {ext : Byte} (h : extOpOfByte ext = none) (s : State) :
    exec (.prefixCB ext) s = .next (faultedAt s (.unimplementedOpcode ext)) := by
  rw [exec_prefixCB, h]
  rfl

/-- Settles O26: the byte in a row's encoding selects the row's operation, and 0x30 to 0x37 select none. -/
theorem prefixRunsExtendedRow : Obligations.PrefixRunsExtendedRow := by
  refine fun ext s => ⟨fun op henc => ?_, fun hlo hhi => ?_⟩
  · rw [exec_prefixCB_of_entry (encode_extInstr_iff.mp henc), exec_extInstr]
  · exact exec_prefixCB_of_noEntry (extOpOfByte_eq_none_iff.mpr ⟨hlo, hhi⟩) s

/-! ## Decoding an encoded row -/

theorem decode_prefix (ext : Byte) (rest : List Byte) :
    decode (0xCB :: ext :: rest) = .ok (extInstrOfByte ext, rest) := rfl

/-- A row of three bytes: the two operand bytes make up the immediate again (`30_encoding.md` R52). -/
theorem decode_imm16 {op : Byte} {f : Word → Instr} (hop : primaryEntry op = some (.opN16 f)) (nn : Word)
    (rest : List Byte) : decode ([op, lowByte nn, highByte nn] ++ rest) = .ok (f nn, rest) := by
  simp [decode, hop]

/-- Settles O50: by the families; only a 16-bit immediate and the rows behind 0xCB need more than evaluation. -/
theorem decodeInvertsEncode : Obligations.DecodeInvertsEncode := by
  intro i rest hwf
  cases familyRow i with
  | push p => cases p <;> rfl
  | pop p => cases p <;> rfl
  | ld r r' => cases r <;> cases r' <;> rfl
  | ldImm r n => cases r <;> rfl
  | ldPairImm p nn => cases p <;> exact decode_imm16 rfl nn rest
  | ldAFromAt p => cases p <;> rfl
  | inc r => cases r <;> rfl
  | dec r => cases r <;> rfl
  | incPair p => cases p <;> rfl
  | xor r => cases r <;> rfl
  | jrCond cc e => cases cc <;> rfl
  | rst k => cases k <;> rfl
  | ext op =>
    obtain ⟨ext, henc, hsel⟩ := exists_extByte op
    rw [henc]
    exact (decode_prefix ext rest).trans (by rw [extInstrOfByte, hsel])
  | prefixCB ext =>
    have hrow : extInstrOfByte ext = .prefixCB ext := (extRow ext).2.2.mpr (extUndefined_iff.mp hwf)
    exact (decode_prefix ext rest).trans (by rw [hrow])
  | ldAtImmFromSP nn => exact decode_imm16 rfl nn rest
  | ldSPImm nn => exact decode_imm16 rfl nn rest
  | call nn => exact decode_imm16 rfl nn rest
  | _ => rfl

/-- Settles O51: what the primary table holds for the first byte (`primaryRow`) is encoded by that byte. -/
theorem encodeInvertsDecode : Obligations.EncodeInvertsDecode := by
  intro bytes i rest hdec
  cases bytes with
  | nil => cases hdec
  | cons op rest' =>
    have row := primaryRow op
    simp only [decode] at hdec
    split at hdec <;> cases hdec
    next he =>
      rw [he] at row
      obtain ⟨henc, hwf, -⟩ := row
      exact ⟨hwf, by rw [henc]; rfl⟩
    next he =>
      rw [he] at row
      obtain ⟨henc, hwf⟩ := row.1 _
      exact ⟨hwf, by rw [henc]; rfl⟩
    next he =>
      rw [he] at row
      obtain ⟨henc, hwf⟩ := row.1 _
      exact ⟨hwf, by rw [henc]; rfl⟩
    next he =>
      rw [he] at row
      obtain ⟨henc, hwf⟩ := row.1 _
      exact ⟨hwf, by rw [henc]; simp⟩
    next ext he =>
      rw [he] at row
      obtain ⟨rfl, -⟩ := row
      obtain ⟨henc, hwf, -⟩ := extRow ext
      exact ⟨hwf, by rw [henc]; rfl⟩

/-! ## The opcode values without an entry -/

theorem primaryEntry_eq_none_iff {op : Byte} : primaryEntry op = none ↔ undefinedPrimary op = true := by
  have row := primaryRow op
  cases he : primaryEntry op with
  | none =>
    rw [he] at row
    exact iff_of_true rfl row
  | some entry =>
    have hdef : undefinedPrimary op = false := by
      rw [he] at row
      cases entry with
      | op i => exact row.2.2
      | opN8 f => exact row.2
      | opE8 f => exact row.2
      | opN16 f => exact row.2
      | cbOp => exact row.2
    simp [hdef]

/-- An undefined opcode is refused before any operand byte is asked for (`60_exceptions.md` R166). -/
theorem decode_of_undefined {op : Byte} (h : undefinedPrimary op = true) (rest : List Byte) :
    decode (op :: rest) = .error (.unimplementedOpcode op) := by
  simp [decode, primaryEntry_eq_none_iff.mpr h]

/-- Settles O52. -/
theorem undefinedOpcodesAreTheListed : Obligations.UndefinedOpcodesAreTheListed := by
  refine ⟨fun op rest => ⟨fun h => ?_, fun h => decode_of_undefined h rest⟩, fun ext rest => ?_⟩
  · obtain ⟨op', rest', hbytes, hundef, herr⟩ | ⟨-, herr⟩ := decode_error h
    · cases herr
      exact hundef
    · cases herr
  · rw [decode_prefix, ← (extRow ext).2.2]
    simp

/-- Settles O53: each word by evaluation of the decoder. -/
theorem specWordsDecode : Obligations.SpecWordsDecode := by
  unfold Obligations.SpecWordsDecode
  and_intros <;> rfl

end Sys2Proof.Machine

/-! PROOFS. No instruction reads what the loop controller and the host hold (`10_state.md` R20, R21). Each shared
operation commutes with forgetting that part of the state, so an instruction answers the same from two states that agree
on the rest. -/

namespace Sys2Proof.Machine

/-! ## Forgetting the control state -/

/-- The state with the run state, the host's flags and samples and the free-value index at fixed values: what is left is
what an instruction may read. -/
def State.program (s : State) : State :=
  { s with runState := .running, runFlag := false, stepAck := false, hostNext := [], freeIndex := 0 }

/-- An outcome up to the control state. -/
def programOut : Out → Out
  | .next s => .next s.program
  | .fault r => .fault r
  | .refused r => .refused r

@[simp] theorem programOut_next (s : State) : programOut (.next s) = .next s.program := rfl

/-- `program` keeps exactly what SameProgramState compares. -/
theorem sameProgramState_iff {s t : State} : SameProgramState s t ↔ t.program = s.program := by
  constructor
  · rintro ⟨hreg, hf, hpc, hsp, hmem, hdelta⟩
    have hb := hreg .b List.not_mem_nil
    have hc := hreg .c List.not_mem_nil
    have hd := hreg .d List.not_mem_nil
    have he := hreg .e List.not_mem_nil
    have hh := hreg .h List.not_mem_nil
    have hl := hreg .l List.not_mem_nil
    have ha := hreg .a List.not_mem_nil
    simp_all [State.program, State.reg]
  · intro h
    simp only [State.program, State.mk.injEq] at h
    refine ⟨fun r _ => ?_, by simp [h], by simp [h], by simp [h], by simp [h], by simp [h]⟩
    cases r <;> simp [State.reg, h]

@[simp] theorem State.program_program (s : State) : s.program.program = s.program := rfl
@[simp] theorem State.f_program (s : State) : s.program.f = s.f := rfl
@[simp] theorem State.pc_program (s : State) : s.program.pc = s.pc := rfl
@[simp] theorem State.sp_program (s : State) : s.program.sp = s.sp := rfl
@[simp] theorem State.rstPushDelta_program (s : State) : s.program.rstPushDelta = s.rstPushDelta := rfl
@[simp] theorem State.flagC_program (s : State) : s.program.flagC = s.flagC := rfl
@[simp] theorem State.byteAt_program (s : State) (x : Nat) : s.program.byteAt x = s.byteAt x := rfl
@[simp] theorem State.reg_program (s : State) (r : Reg) : s.program.reg r = s.reg r := by cases r <;> rfl
@[simp] theorem State.pair_program (s : State) (p : Pair) : s.program.pair p = s.pair p := by cases p <;> rfl
@[simp] theorem operandValue_program (x : Operand8) (s : State) : operandValue x s.program = operandValue x s := by
  cases x <;> simp [operandValue]
@[simp] theorem condHolds_program (s : State) (cc : Cond) : condHolds s.program cc = condHolds s cc := by
  cases cc <;> rfl
@[simp] theorem rstPushed_program (s : State) : rstPushed s.program = rstPushed s := rfl

@[simp] theorem State.program_setPc (s : State) (v : Word) : (s.setPc v).program = s.program.setPc v := rfl
@[simp] theorem State.program_setSp (s : State) (v : Word) : (s.setSp v).program = s.program.setSp v := rfl
@[simp] theorem State.program_advance (s : State) (n : Word) : (s.advance n).program = s.program.advance n := rfl
@[simp] theorem State.program_store (s : State) (x : Nat) (v : Byte) : (s.store x v).program = s.program.store x v := rfl
@[simp] theorem State.program_setReg (s : State) (r : Reg) (v : Byte) :
    (s.setReg r v).program = s.program.setReg r v := by cases r <;> rfl
@[simp] theorem State.program_setPair (s : State) (p : Pair) (v : Word) :
    (s.setPair p v).program = s.program.setPair p v := by cases p <;> rfl
@[simp] theorem State.program_setZNH (s : State) (z n h : Bool) :
    (s.setZNH z n h).program = s.program.setZNH z n h := rfl
@[simp] theorem State.program_setZNHC (s : State) (z n h c : Bool) :
    (s.setZNHC z n h c).program = s.program.setZNHC z n h c := rfl

/-! ## The shared operations -/

theorem programOut_raise (k : FaultKind) (s : State) : programOut (raise k s.program) = programOut (raise k s) := rfl

theorem programOut_withRead {addr : Int} {s : State} {k k' : Byte → Out}
    (hk : ∀ v, programOut (k' v) = programOut (k v)) :
    programOut (withRead addr s.program k') = programOut (withRead addr s k) := by
  cases hr : inRange addr
  · rw [withRead_of_not_inRange hr, withRead_of_not_inRange hr, programOut_raise]
  · rw [withRead_of_inRange hr, withRead_of_inRange hr, State.byteAt_program, hk]

theorem programOut_withWrite {addr : Int} {v : Byte} {s : State} {k k' : State → Out}
    (hk : ∀ u, programOut (k' u.program) = programOut (k u)) :
    programOut (withWrite addr v s.program k') = programOut (withWrite addr v s k) := by
  cases hr : inRange addr
  · rw [withWrite_of_not_inRange hr, withWrite_of_not_inRange hr, programOut_raise]
  · rw [withWrite_of_inRange hr, withWrite_of_inRange hr, ← State.program_store, hk]

theorem programOut_push16 {v : Word} {s : State} {k k' : State → Out}
    (hk : ∀ u, programOut (k' u.program) = programOut (k u)) :
    programOut (push16 v s.program k') = programOut (push16 v s k) :=
  programOut_withWrite fun _ => programOut_withWrite fun u => hk (u.setSp (u.sp - 2))

theorem programOut_pop16 {s : State} {k k' : Word → State → Out}
    (hk : ∀ v u, programOut (k' v u.program) = programOut (k v u)) :
    programOut (pop16 s.program k') = programOut (pop16 s k) :=
  programOut_withRead fun _ => programOut_withRead fun _ => hk _ (s.setSp (s.sp + 2))

theorem programOut_putOperand {x : Operand8} {v : Byte} {s : State} {k k' : State → Out}
    (hk : ∀ u, programOut (k' u.program) = programOut (k u)) :
    programOut (putOperand x v s.program k') = programOut (putOperand x v s k) := by
  cases x with
  | reg r => rw [putOperand_reg, putOperand_reg, ← State.program_setReg, hk]
  | atHL => rw [putOperand, State.pair_program]; exact programOut_withWrite hk

theorem programOut_runExt (op : ExtOp) (s : State) : programOut (runExt op s.program) = programOut (runExt op s) := by
  cases op with
  | shift o x =>
    simp only [runExt, runShift, withOperand_eq, operandValue_program, State.flagC_program]
    exact programOut_putOperand fun _ => by simp
  | bit b x => simp [runExt, runBit, withOperand_eq]
  | res b x =>
    simp only [runExt, runRes, withOperand_eq, operandValue_program]
    exact programOut_putOperand fun _ => by simp
  | set b x =>
    simp only [runExt, runSet, withOperand_eq, operandValue_program]
    exact programOut_putOperand fun _ => by simp

/-- A load of A from an address the control state does not enter. -/
theorem programOut_loadA (addr : Int) (len : Word) (s : State) :
    programOut (loadA addr len s.program) = programOut (loadA addr len s) :=
  programOut_withRead fun _ => by simp

theorem programOut_storeA (addr : Int) (len : Word) (s : State) :
    programOut (storeA addr len s.program) = programOut (storeA addr len s) := by
  rw [storeA, State.reg_program]
  exact programOut_withWrite fun _ => by simp

theorem programOut_loadAStepHL (delta : Word) (s : State) :
    programOut (loadAStepHL delta s.program) = programOut (loadAStepHL delta s) := by
  rw [loadAStepHL, State.pair_program]
  exact programOut_withRead fun _ => by simp

theorem programOut_storeAStepHL (delta : Word) (s : State) :
    programOut (storeAStepHL delta s.program) = programOut (storeAStepHL delta s) := by
  rw [storeAStepHL, State.pair_program, State.reg_program]
  exact programOut_withWrite fun _ => by simp

/-! ## The obligation -/

/-- Every instruction answers the same from a state and from that state with its control part forgotten. -/
theorem programOut_exec (i : Instr) (s : State) : programOut (exec i s.program) = programOut (exec i s) := by
  cases familyRow i with
  | push p =>
    rw [exec_pushInstr, exec_pushInstr, pushPair, State.pair_program]
    exact programOut_push16 fun _ => by simp
  | pop p =>
    rw [exec_popInstr, exec_popInstr]
    exact programOut_pop16 fun _ _ => by simp
  | ld r r' => simp [ldReg]
  | ldImm r n => simp [ldRegImm]
  | ldPairImm p nn => simp [ldPairImm]
  | ldAFromAt p => simp [programOut_loadA]
  | inc r => simp [incReg]
  | dec r => simp [decReg]
  | incPair p => simp [incPair]
  | xor r => simp [xorReg]
  | jrCond cc e =>
    rw [exec_jrCondInstr, exec_jrCondInstr, jumpIf, jumpIf, condHolds_program]
    split <;> simp [jumpRelative]
  | rst k =>
    rw [exec_rstInstr, exec_rstInstr, restart, rstPushed_program]
    exact programOut_push16 fun _ => by simp
  | ext op =>
    rw [exec_extInstr, exec_extInstr]
    exact programOut_runExt op s
  | prefixCB ext =>
    rw [exec_prefixCB, exec_prefixCB]
    split
    · exact programOut_runExt _ s
    · exact programOut_raise _ s
  | ldAtImmFromSP nn =>
    rw [exec_ldAtImmFromSP, exec_ldAtImmFromSP, execLdAtImmFromSP, execLdAtImmFromSP]
    exact programOut_withWrite fun u => programOut_withWrite (v := highByte u.sp) fun _ => by simp
  | ldAtHLImm n =>
    rw [exec_ldAtHLImm, exec_ldAtHLImm, execLdAtHLImm, State.pair_program]
    exact programOut_withWrite fun _ => by simp
  | ldSPImm nn => simp
  | ldAtHLIncFromA => exact programOut_storeAStepHL 1 s
  | ldAtHLDecFromA => exact programOut_storeAStepHL (-1) s
  | ldAFromAtHLInc => exact programOut_loadAStepHL 1 s
  | ldAFromAtHLDec => exact programOut_loadAStepHL (-1) s
  | ldHighImmFromA n => exact programOut_storeA (highAddr n) 2 s
  | ldAFromHighImm n => exact programOut_loadA (highAddr n) 2 s
  | ldHighCFromA => exact programOut_storeA (highAddr (s.reg .c)) 1 s
  | ldAFromHighC => exact programOut_loadA (highAddr (s.reg .c)) 1 s
  | rlaAcc => simp [execRlaAcc]
  | jr e => simp [jumpRelative]
  | call nn =>
    rw [exec_call, exec_call, execCall, execCall, State.pc_program]
    exact programOut_push16 fun _ => by simp

/-- Settles O43: both states run as the one that is left when their control part is forgotten. -/
theorem noInstructionReadsControlState : Obligations.NoInstructionReadsControlState := by
  intro i s s' t hsame ht
  obtain ⟨t', ht'⟩ := exec_answers i s'
  refine ⟨t', ht', sameProgramState_iff.mpr (next_inj.mp ?_)⟩
  calc .next t'.program
      = programOut (exec i s') := by rw [ht', programOut_next]
    _ = programOut (exec i s'.program) := (programOut_exec i s').symm
    _ = programOut (exec i s.program) := by rw [sameProgramState_iff.mp hsame]
    _ = programOut (exec i s) := programOut_exec i s
    _ = .next t.program := by rw [ht, programOut_next]

end Sys2Proof.Machine

/-! PROOFS. The run state, the loop and the invariant (`10_state.md` R20, R21, `40_fetch_execute.md` R70, R71,
`60_exceptions.md`). What an instruction can do to the run state, to the host's fields and to the form of memory is said
once for all instructions; what a step does follows from that and from what decode can answer. -/

namespace Sys2Proof.Machine

/-! ## What an instruction does to the run state -/

/-- The faults that an instruction can raise on its way from s to t (`60_exceptions.md` R161, R162): an address just
outside the address space, or the byte after 0xCB where it has no entry, and then memory is as it was. -/
inductive RaisedBy (i : Instr) (s t : State) : FaultKind → Prop where
  | below : RaisedBy i s t (.addressOutOfRange (-1))
  | above : RaisedBy i s t (.addressOutOfRange 0x10000)
  | noEntry (ext : Byte) (hi : i = .prefixCB ext) (hmem : t.mem = s.mem) :
      RaisedBy i s t (.unimplementedOpcode ext)

/-- The run state after an instruction: as before, or FAULTED with the PC that no instruction has written yet
(`60_exceptions.md` R164, R165). -/
def RunStateAfter (i : Instr) (s t : State) : Prop :=
  t.runState = s.runState ∨ ∃ k, t.runState = .faulted ⟨k, s.pc⟩ ∧ t.pc = s.pc ∧ RaisedBy i s t k

theorem PushEffect.runStateAfter {i : Instr} {s t : State} {v : Word} {go : State → State}
    (h : PushEffect s v go t) (hgo : ∀ u, (go u).runState = u.runState) : RunStateAfter i s t := by
  cases h with
  | ok hroom => exact .inl (hgo _)
  | zero h0 => exact .inr ⟨_, rfl, rfl, .below⟩
  | one h1 => exact .inr ⟨_, rfl, rfl, .below⟩

theorem runStateAfter_of_exec {i : Instr} {s t : State} (h : exec i s = .next t) : RunStateAfter i s t := by
  cases execEffect h with
  | push p hp => exact hp.runStateAfter fun _ => rfl
  | rst k hp => exact hp.runStateAfter fun _ => rfl
  | call nn hp => exact hp.runStateAfter fun _ => rfl
  | popTop p ht => exact .inr ⟨_, rfl, rfl, .above⟩
  | ldAtImmFromSPTop nn ht => exact .inr ⟨_, rfl, rfl, .above⟩
  | prefixUndefined ext he => exact .inr ⟨_, rfl, rfl, .noEntry ext rfl rfl⟩
  | _ => exact .inl (by simp)

/-- Settles O44: the host's fields by cases on what an instruction can do, the run state by `runStateAfter_of_exec`. -/
theorem noInstructionWritesHostFlags : Obligations.NoInstructionWritesHostFlags := by
  intro i s t h
  have hhost : t.runFlag = s.runFlag ∧ t.stepAck = s.stepAck ∧ t.hostNext = s.hostNext ∧
      t.rstPushDelta = s.rstPushDelta ∧ t.freeIndex = s.freeIndex := by
    cases execEffect h with
    | push p hp => cases hp <;> simp
    | rst k hp => cases hp <;> simp
    | call nn hp => cases hp <;> simp
    | _ => simp
  obtain ⟨hflag, hack, hnext, hdelta, hindex⟩ := hhost
  refine ⟨hflag, hack, hnext, hdelta, hindex, ?_⟩
  obtain hsame | ⟨k, hfault, hpc, hk⟩ := runStateAfter_of_exec h
  · exact .inl hsame
  · exact .inr ⟨⟨k, hfault, by cases hk <;> simp⟩, hpc⟩

/-! ## The canonical form of memory -/

theorem highAddr_lt (n : Byte) : (highAddr n).toNat < 65536 := by
  have h := n.isLt
  simp only [highAddr]
  omega

theorem wf_pushed {s : State} (hwf : Memory.wf s.mem = true) (v : Word) : Memory.wf (pushed s v).mem = true := by
  have hlt := s.sp.isLt
  have ha : (addrOf s.sp - 1).toNat < 65536 := by simp only [addrOf]; omega
  have hb : (addrOf s.sp - 2).toNat < 65536 := by simp only [addrOf]; omega
  exact wf_store (wf_store hwf ha _) hb _

theorem PushEffect.wf {s t : State} {v : Word} {go : State → State} (h : PushEffect s v go t)
    (hgo : ∀ u, (go u).mem = u.mem) (hwf : Memory.wf s.mem = true) : Memory.wf t.mem = true := by
  cases h with
  | ok hroom => rw [hgo]; exact wf_pushed hwf v
  | zero h0 => exact hwf
  | one h1 => exact wf_store hwf (by decide) _

theorem wf_operandPut {s : State} (hwf : Memory.wf s.mem = true) (x : Operand8) (v : Byte) :
    Memory.wf (operandPut x v s).mem = true := by
  cases x with
  | reg r => simpa [operandPut] using hwf
  | atHL => exact wf_store hwf (s.pair .hl).isLt v

/-- Every instruction keeps memory in canonical form: it stores inside the address space or not at all. -/
theorem wf_of_exec {i : Instr} {s t : State} (h : exec i s = .next t) (hwf : Memory.wf s.mem = true) :
    Memory.wf t.mem = true := by
  cases execEffect h with
  | push p hp => exact hp.wf (fun _ => rfl) hwf
  | rst k hp => exact hp.wf (fun _ => rfl) hwf
  | call nn hp => exact hp.wf (fun _ => rfl) hwf
  | ldAtImmFromSP nn hr => simpa using wf_writeCell (wf_writeCell hwf nn.isLt _) (by omega) _
  | ldAtImmFromSPTop nn ht => simpa using wf_writeCell hwf nn.isLt _
  | ldAtHLImm n => simpa using wf_writeCell hwf (s.pair .hl).isLt _
  | ldAtHLIncFromA => simpa using wf_writeCell hwf (s.pair .hl).isLt _
  | ldAtHLDecFromA => simpa using wf_writeCell hwf (s.pair .hl).isLt _
  | ldHighImmFromA n => simpa using wf_writeCell hwf (highAddr_lt n) _
  | ldHighCFromA => simpa using wf_writeCell hwf (highAddr_lt s.c) _
  | shift op x hi => simpa using wf_operandPut hwf x _
  | res b x hi => simpa using wf_operandPut hwf x _
  | set b x hi => simpa using wf_operandPut hwf x _
  | _ => simpa using hwf

/-! ## The fetch -/

theorem length_fetchBytes_le (s : State) : (fetchBytes s).length ≤ 3 := by
  rw [fetchBytes, List.length_map]
  exact List.length_filter_le _ (List.range 3)

/-- Below the top of memory a fetch sees the byte at pc and the one after it. -/
theorem fetchBytes_cons_cons {s : State} (h : s.pc.toNat < 0xFFFF) :
    ∃ rest, fetchBytes s = s.byteAt s.pc.toNat :: s.byteAt (s.pc.toNat + 1) :: rest := by
  by_cases hlow : s.pc.toNat + 2 ≤ 0xFFFF
  · exact ⟨_, fetchBytes_of_low hlow⟩
  · have hpc : s.pc.toNat = 0xFFFE := by omega
    rw [fetchBytes_of_fffe hpc, hpc]
    exact ⟨_, rfl⟩

/-- A byte that a fetch sees at offset k is inside the address space, and memory holds it there. -/
theorem byteAt_of_fetchBytes {s : State} {k : Nat} {v : Byte} (h : (fetchBytes s)[k]? = some v) :
    s.pc.toNat + k ≤ 0xFFFF ∧ s.byteAt (s.pc.toNat + k) = v := by
  have hk : k < (fetchBytes s).length := (List.getElem?_eq_some_iff.mp h).1
  have hle := length_fetchBytes_le s
  have hlen := length_fetchBytes s
  have htop : s.pc.toNat + k ≤ 0xFFFF := by omega
  rw [getElem?_fetchBytes (by omega) htop] at h
  exact ⟨htop, Option.some.inj h⟩

/-- A fetch that finds no instruction finds a fault of the invariant's kinds: the undefined opcode at pc, or the first
address above the address space. -/
theorem faultKindOk_fetchFault {s : State} {err : DecodeError} (h : decode (fetchBytes s) = .error err) :
    FaultKindOk s (fetchFault s err) := by
  obtain ⟨op, rest, hbytes, hundef, rfl⟩ | ⟨hshort, rfl⟩ := decode_error h
  · exact .inl ⟨hundef, (byteAt_of_fetchBytes (k := 0) (by rw [hbytes]; rfl)).2⟩
  · have hlen := length_fetchBytes s
    exact .inr (by simp only [addrOf]; omega)

/-- Fetch and decode either run an instruction or raise the fault of the fetch. -/
theorem fetchThen_next {s t : State} (h : fetchThen exec s = .next t) :
    (∃ i rest, decode (fetchBytes s) = .ok (i, rest) ∧ exec i s = .next t) ∨
    (∃ err, decode (fetchBytes s) = .error err ∧ t = faultedAt s (fetchFault s err)) := by
  unfold fetchThen at h
  split at h
  next i rest hdec => exact .inl ⟨i, rest, hdec, h⟩
  next err hdec => exact .inr ⟨err, hdec, (next_inj.mp h).symm⟩

theorem fetchFault_hostTurn (s : State) (err : DecodeError) : fetchFault (hostTurn s) err = fetchFault s err := by
  cases err <;> simp [fetchFault]

theorem step_of_decode_ok {s : State} (hs : AboutToFetch s) {i : Instr} {rest : List Byte}
    (h : decode (fetchBytes s) = .ok (i, rest)) : step s = exec i (hostTurn s) := by
  rw [step_of_running hs.1 hs.2, fetchThen, fetchBytes_hostTurn, h]

theorem step_of_decode_error {s : State} (hs : AboutToFetch s) {err : DecodeError}
    (h : decode (fetchBytes s) = .error err) : step s = .next (faultedAt (hostTurn s) (fetchFault s err)) := by
  rw [step_of_running hs.1 hs.2, fetchThen, fetchBytes_hostTurn, h, ← fetchFault_hostTurn]
  rfl

/-- A step on an undefined opcode raises its fault at any PC (`60_exceptions.md` R161, R166). -/
theorem step_of_undefined {s : State} (hs : AboutToFetch s) (h : undefinedPrimary (s.byteAt s.pc.toNat) = true) :
    step s = .next (faultedAt (hostTurn s) (.unimplementedOpcode (s.byteAt s.pc.toNat))) := by
  obtain ⟨rest, hbytes⟩ := fetchBytes_cons s
  exact step_of_decode_error hs (by rw [hbytes, decode_of_undefined h])

theorem sameProgramState_faultedAt_hostTurn (s : State) (k : FaultKind) :
    SameProgramState s (faultedAt (hostTurn s) k) :=
  sameProgramState_iff.mpr (sameProgramState_iff.mp (hostTurn_same s).1)

/-! ## The invariant -/

/-- What the row `prefixCB` says of the bytes at pc: decode answers it only for 0xCB and a byte without an entry. -/
theorem bytes_of_decode_prefixCB {s : State} {ext : Byte} {rest : List Byte}
    (h : decode (fetchBytes s) = .ok (.prefixCB ext, rest)) :
    extUndefined ext = true ∧ s.byteAt s.pc.toNat = 0xCB ∧ s.pc.toNat + 1 ≤ 0xFFFF ∧
      s.byteAt (s.pc.toNat + 1) = ext := by
  obtain ⟨hwf, henc⟩ := encodeInvertsDecode _ _ _ h
  have hbytes : fetchBytes s = 0xCB :: ext :: rest := henc.symm
  obtain ⟨-, hop⟩ := byteAt_of_fetchBytes (s := s) (k := 0) (by rw [hbytes]; rfl)
  obtain ⟨htop, hext⟩ := byteAt_of_fetchBytes (s := s) (k := 1) (by rw [hbytes]; rfl)
  exact ⟨hwf, hop, htop, hext⟩

/-- Fetch, decode and execute from a RUNNING state with canonical memory end in a state that meets the invariant. -/
theorem stateInv_of_fetchThen {s t : State} (hwf : Memory.wf s.mem = true) (hrun : s.runState = .running)
    (h : fetchThen exec s = .next t) : StateInv t := by
  obtain ⟨i, rest, hdec, hexec⟩ | ⟨err, hdec, rfl⟩ := fetchThen_next h
  · refine ⟨wf_of_exec hexec hwf, fun record hrec => ?_⟩
    obtain hsame | ⟨k, hfault, hpc, hk⟩ := runStateAfter_of_exec hexec
    · rw [hsame, hrun] at hrec
      cases hrec
    · rw [hfault] at hrec
      cases hrec
      refine ⟨hpc.symm, ?_⟩
      cases hk with
      | below => exact .inl rfl
      | above => exact .inr rfl
      | noEntry ext hi hmem =>
        subst hi
        refine .inr ?_
        simpa only [State.byteAt, hpc, hmem] using bytes_of_decode_prefixCB hdec
  · refine ⟨hwf, fun record hrec => ?_⟩
    cases hrec
    exact ⟨rfl, faultKindOk_fetchFault hdec⟩

/-- Settles O47: only a step about to fetch can raise a fault or write memory. -/
theorem everyStepKeepsTheInvariant : Obligations.EveryStepKeepsTheInvariant := by
  intro s t hinv hstep
  cases hrun : s.runState with
  | stopped =>
    rw [step_of_stopped hrun] at hstep
    rwa [← next_inj.mp hstep]
  | faulted record =>
    rw [step_of_faulted hrun] at hstep
    rwa [← next_inj.mp hstep]
  | running =>
    cases hflag : s.runFlag with
    | false =>
      rw [step_of_flag_false hrun hflag] at hstep
      rw [← next_inj.mp hstep]
      exact ⟨hinv.1, fun record hrec => (nomatch hrec)⟩
    | true =>
      rw [step_of_running hrun hflag] at hstep
      exact stateInv_of_fetchThen (by rw [mem_hostTurn]; exact hinv.1) ((hostTurn_same s).2.trans hrun) hstep

/-- Settles O46. -/
theorem resetMeetsTheInvariant : Obligations.ResetMeetsTheInvariant :=
  ⟨wf_reset, fun _ hrec => nomatch hrec⟩

/-- Settles O45. -/
theorem resetStateHasGivenValues : Obligations.ResetStateHasGivenValues :=
  ⟨fun r => by cases r <;> rfl, rfl, rfl, rfl, fun _ => rfl, rfl, rfl, rfl⟩

/-! ## The loop -/

/-- Settles O54. -/
theorem stepRunsDecodedInstruction : Obligations.StepRunsDecodedInstruction := by
  intro s i rest hs hdec
  exact ⟨(encodeInvertsDecode _ _ _ hdec).1, step_of_decode_ok hs hdec, hostTurn_same s⟩

/-- Settles O55: by whether a sample is listed. -/
theorem hostTurnTakesTheNextSample : Obligations.HostTurnTakesTheNextSample := by
  intro s
  constructor
  · intro hnone
    simp +contextual [hostTurn, hnone]
  · intro x xs hnext
    simp +contextual [hostTurn, hnext, or_imp]

/-- Settles O58: a step about to fetch ends as the instruction or the fetch fault leaves the run state. -/
theorem runStateRules : Obligations.RunStateRules := by
  intro s
  refine ⟨step_of_flag_false, fun hrun => ?_, fun hs => ?_⟩
  · cases hrs : s.runState with
    | running => exact absurd hrs hrun
    | stopped => exact step_of_stopped hrs
    | faulted record => exact step_of_faulted hrs
  · obtain ⟨t, ht⟩ := fetchThen_answers (hostTurn s)
    refine ⟨t, (step_of_running hs.1 hs.2).trans ht, ?_⟩
    obtain ⟨i, rest, -, hexec⟩ | ⟨err, -, rfl⟩ := fetchThen_next ht
    · obtain hsame | ⟨k, hfault, -⟩ := runStateAfter_of_exec hexec
      · simp [hsame, (hostTurn_same s).2, hs.1]
      · simp [hfault]
    · simp

/-- Settles O56: an undefined opcode is refused by the fetch, an extended byte without an entry by the row
`prefixCB`. -/
theorem undefinedOpcodeFaultsCleanly : Obligations.UndefinedOpcodeFaultsCleanly := by
  intro s hs
  refine ⟨fun hundef => ?_, fun hop htop hlo hhi => ?_⟩
  · exact ⟨_, step_of_undefined hs hundef, by simp, sameProgramState_faultedAt_hostTurn s _⟩
  · have hext : extOpOfByte (s.byteAt (s.pc.toNat + 1)) = none := extOpOfByte_eq_none_iff.mpr ⟨hlo, hhi⟩
    obtain ⟨rest, hbytes⟩ := fetchBytes_cons_cons htop
    have hdec : decode (fetchBytes s) = .ok (.prefixCB (s.byteAt (s.pc.toNat + 1)), rest) := by
      rw [hbytes, hop, decode_prefix, extInstrOfByte, hext]
    exact ⟨_, (step_of_decode_ok hs hdec).trans (exec_prefixCB_of_noEntry hext _), by simp,
      sameProgramState_faultedAt_hostTurn s _⟩

/-- An opcode whose operand bytes are not all there misses the byte after the last one given (`20_memory.md` R36). -/
theorem decode_of_short {op : Byte} {rest : List Byte} (h : rest.length + 1 < primaryLength op) :
    decode (op :: rest) = .error (.missingByte (rest.length + 1)) := by
  cases he : primaryEntry op with
  | none => simp [primaryLength, he] at h
  | some entry =>
    have hlen : rest.length + 1 < entryLength entry := by simpa [primaryLength, he] using h
    cases entry with
    | op i => simp [entryLength] at hlen
    | opN8 f =>
      obtain rfl : rest = [] := by simpa [entryLength] using hlen
      simp [decode, he]
    | opE8 f =>
      obtain rfl : rest = [] := by simpa [entryLength] using hlen
      simp [decode, he]
    | cbOp =>
      obtain rfl : rest = [] := by simpa [entryLength] using hlen
      simp [decode, he]
    | opN16 f =>
      match rest, hlen with
      | [], _ => simp [decode, he]
      | [_], _ => simp [decode, he]
      | _ :: _ :: _, hlen => exact absurd hlen (by simp [entryLength])

/-- Settles O57: the fetch misses the byte at 0x10000. -/
theorem operandOffTheEndFaults : Obligations.OperandOffTheEndFaults := by
  intro s hs
  refine ⟨fun hpc hlen => ?_, fun hpc hlen => ?_⟩
  · have hdec : decode (fetchBytes s) = .error (.missingByte 1) := by
      rw [fetchBytes_of_ffff hpc]
      exact decode_of_short hlen
    refine ⟨_, step_of_decode_error hs hdec, ?_⟩
    simp [fetchFault, addrOf, hpc]
  · have hdec : decode (fetchBytes s) = .error (.missingByte 2) := by
      rw [fetchBytes_of_fffe hpc]
      exact decode_of_short (by simp [hlen])
    refine ⟨_, step_of_decode_error hs hdec, ?_⟩
    simp [fetchFault, addrOf, hpc]

/-- Settles O49: the snapshot of the STOPPED state is the state's own registers and memory. -/
theorem stoppedRunResumesFromSnapshot : Obligations.StoppedRunResumesFromSnapshot := by
  intro s hrun
  refine ⟨by rw [saveSnapshot, hrun], fun hflag => ?_⟩
  exact ⟨_, snapshotOf s, step_of_flag_false hrun hflag, rfl, sameProgramState_iff.mpr rfl, rfl, rfl⟩

end Sys2Proof.Machine

/-! PROOFS. The stack and the transfers of control (`41_stack.md`, `44_control.md`). PUSH, CALL and RST are one operation,
the push, and then go on to their own PC; what the push leaves is said once. -/

namespace Sys2Proof.Machine

/-! ## Frames of the state updates -/

/-- An update that writes no register and no byte adds nothing to a frame. -/
theorem Frame.trans_same {rs : List Reg} {as : List Nat} {s t u : State} (hst : Frame rs as s t)
    (htu : Frame [] [] t u) : Frame rs as s u := by
  simpa using hst.trans htu

theorem frame_setPc (s : State) (v : Word) : Frame [] [] s (s.setPc v) := by
  simp [Frame, SameRegsExcept, SameMemoryExcept, SameControl]

theorem frame_setSp (s : State) (v : Word) : Frame [] [] s (s.setSp v) := by
  simp [Frame, SameRegsExcept, SameMemoryExcept, SameControl]

/-! ## The push -/

theorem push16_eq_pushed {s : State} (hroom : 2 ≤ s.sp.toNat) (v : Word) (k : State → Out) :
    push16 v s k = k (pushed s v) :=
  push16_of_room hroom v k

theorem frame_pushed (s : State) (v : Word) :
    Frame [] [(addrOf s.sp - 1).toNat, (addrOf s.sp - 2).toNat] s (pushed s v) :=
  ((frame_store s _ _).trans (frame_store _ _ _)).trans (frame_setSp _ _)

/-- The high byte stays where it was stored: with room for two bytes the low byte goes to another address. -/
theorem byteAt_pushed_high {s : State} (hwf : Memory.wf s.mem = true) (hroom : 2 ≤ s.sp.toNat) (v : Word) :
    (pushed s v).byteAt (addrOf s.sp - 1).toNat = highByte v := by
  have hne : (addrOf s.sp - 1).toNat ≠ (addrOf s.sp - 2).toNat := by simp only [addrOf]; omega
  rw [pushed, State.byteAt_setSp, byteAt_store_other _ _ hne, byteAt_store_same hwf]

theorem byteAt_pushed_low {s : State} (hwf : Memory.wf s.mem = true) (v : Word) :
    (pushed s v).byteAt (addrOf s.sp - 2).toNat = lowByte v := by
  have hlt := s.sp.isLt
  have ha : (addrOf s.sp - 1).toNat < 65536 := by simp only [addrOf]; omega
  rw [pushed, State.byteAt_setSp, byteAt_store_same (wf_store hwf ha _)]

/-- A push from SP 0 or 1 raises AddressOutOfRange(-1), whatever comes after it (`41_stack.md` R82). -/
theorem push16_faults {s : State} (h : s.sp.toNat ≤ 1) (v : Word) (k : State → Out) :
    FaultsWith (push16 v s k) (.addressOutOfRange (-1)) s.pc := by
  by_cases h0 : s.sp.toNat = 0
  · exact ⟨_, push16_of_zero h0 v k, rfl⟩
  · exact ⟨_, push16_of_one (by omega) v k, rfl⟩

/-- Settles O1: the push of the pair, then PC one higher. -/
theorem pushStoresPair : Obligations.PushStoresPair := by
  intro p s
  rw [exec_pushInstr]
  refine ⟨fun hwf hroom => ?_, fun h => push16_faults h _ _⟩
  refine ⟨_, push16_eq_pushed hroom _ _, byteAt_pushed_high hwf hroom _, byteAt_pushed_low hwf _, rfl, rfl, rfl, ?_⟩
  exact (frame_pushed s _).trans (frame_advance _ 1)

/-- Settles O24: the push of the return address, then PC at nn. -/
theorem callPushesReturnAddress : Obligations.CallPushesReturnAddress := by
  intro nn s
  rw [exec_call]
  refine ⟨fun hwf hroom => ?_, fun h => push16_faults h _ _⟩
  refine ⟨_, push16_eq_pushed hroom _ _, byteAt_pushed_high hwf hroom _, byteAt_pushed_low hwf _, rfl, rfl, rfl, ?_⟩
  exact (frame_pushed s _).trans (frame_setPc _ nn)

theorem rstPushed_eq (s : State) : rstPushed s = s.pc + BitVec.ofNat 16 s.rstPushDelta.toNat := by
  rw [rstPushed]
  cases s.rstPushDelta <;> rfl

theorem toNat_rstTarget (k : Index8) : (rstTarget k).toNat = 8 * indexNat k := by
  cases k <;> rfl

/-- Settles O25: the push of pc plus the parameter, then PC at the vector. -/
theorem rstPushesAndJumpsToVector : Obligations.RstPushesAndJumpsToVector := by
  intro k s
  rw [exec_rstInstr, ← rstPushed_eq]
  refine ⟨fun hwf hroom => ?_, fun h => push16_faults h _ _⟩
  refine ⟨_, push16_eq_pushed hroom _ _, byteAt_pushed_high hwf hroom _, byteAt_pushed_low hwf _, rfl,
    toNat_rstTarget k, rfl, ?_⟩
  exact (frame_pushed s _).trans (frame_setPc _ _)

/-! ## The pop -/

theorem popPair_of_room {s : State} (h : s.sp.toNat < 0xFFFF) (p : Pair) :
    popPair p s = .next (((s.setSp (s.sp + 2)).setPair p
      (wordOf (s.byteAt (s.sp.toNat + 1)) (s.byteAt s.sp.toNat))).advance 1) :=
  pop16_of_room h _

/-- Settles O2: with both bytes in the address space the pair is written whole. -/
theorem popLoadsPair : Obligations.PopLoadsPair := by
  intro p s
  rw [exec_popInstr]
  refine ⟨fun h => ⟨_, popPair_of_room h p, by simp, ?af, ?other, by simp, by simp, ?frame⟩, fun h => ?top⟩
  case af =>
    rintro rfl
    exact lowByte_wordOf _ _
  case other =>
    intro hp
    rw [State.f_advance, State.f_setPair_of_ne _ _ hp, State.f_setSp]
  case frame => exact ((frame_setSp s _).trans (frame_setPair _ p _)).trans_same (frame_advance _ 1)
  case top => exact ⟨_, pop16_of_top h _, rfl⟩

/-- Settles O3: the pop reads the two bytes that the push stored, and SP moves by 2 down and up. -/
theorem pushThenPopRestores : Obligations.PushThenPopRestores := by
  intro p q s hwf hroom
  obtain ⟨t, ht, hhigh, hlow, hsp, -⟩ := (pushStoresPair p s).1 hwf hroom
  have hlt := s.sp.isLt
  have htsp : t.sp.toNat = s.sp.toNat - 2 := by rw [hsp]; bv_omega
  obtain ⟨u, hu, hpair, -, -, husp, -⟩ := (popLoadsPair q t).1 (by omega)
  refine ⟨t, u, ht, hu, ?_, ?_⟩
  · have ha : (addrOf s.sp - 1).toNat = t.sp.toNat + 1 := by simp only [addrOf]; omega
    have hb : (addrOf s.sp - 2).toNat = t.sp.toNat := by simp only [addrOf]; omega
    rw [hpair, ← ha, ← hb, hhigh, hlow, wordOf_high_low]
  · rw [husp, hsp, BitVec.sub_add_cancel]

/-! ## The relative jumps -/

/-- `pc + 2 + e` as exact arithmetic, then modulo 65536 (`44_control.md` R120). -/
theorem pc_add_offset (pc : Word) (e : Byte) :
    pc + 2 + offsetOf e = BitVec.ofInt 16 ((pc.toNat : Int) + 2 + e.toInt) := by
  rw [BitVec.ofInt_add, BitVec.ofInt_add, BitVec.ofInt_natCast, BitVec.ofNat_toNat, BitVec.setWidth_eq]
  rfl

theorem jumpIf_taken {s : State} {cc : Cond} (h : condHolds s cc = true) (e : Byte) :
    jumpIf cc e s = jumpRelative e s := by
  rw [jumpIf, if_pos h]

theorem jumpIf_notTaken {s : State} {cc : Cond} (h : condHolds s cc = false) (e : Byte) :
    jumpIf cc e s = .next (s.advance 2) := by
  rw [jumpIf, h]
  rfl

/-- Settles O22. -/
theorem jrAddsSignedOffset : Obligations.JrAddsSignedOffset :=
  fun e s => ⟨_, exec_jr e s, pc_add_offset s.pc e, rfl, rfl, frame_setPc s _⟩

/-- The condition of a row of the table holds exactly when the flag has the row's polarity (`30_encoding.md` R55). -/
theorem condHolds_eq {s : State} {cc : Cond} {flag polarity : Bool}
    (h : (cc, flag, polarity) ∈
      [(Cond.nz, s.flagZ, false), (.z, s.flagZ, true), (.nc, s.flagC, false), (.c, s.flagC, true)]) :
    condHolds s cc = (flag == polarity) := by
  simp only [List.mem_cons, Prod.mk.injEq, List.not_mem_nil, or_false] at h
  obtain ⟨rfl, rfl, rfl⟩ | ⟨rfl, rfl, rfl⟩ | ⟨rfl, rfl, rfl⟩ | ⟨rfl, rfl, rfl⟩ := h <;> simp [condHolds]

/-- Settles O23: by whether the flag has the polarity of the condition. -/
theorem jrCondJumpsWhenFlagHolds : Obligations.JrCondJumpsWhenFlagHolds := by
  intro e s cc flag polarity hrow
  have hcond := condHolds_eq hrow
  rw [exec_jrCondInstr]
  by_cases hflag : flag = polarity
  · rw [beq_iff_eq.mpr hflag] at hcond
    rw [if_pos hflag]
    exact ⟨_, jumpIf_taken hcond e, pc_add_offset s.pc e, rfl, rfl, frame_setPc s _⟩
  · rw [beq_eq_false_iff_ne.mpr hflag] at hcond
    rw [if_neg hflag]
    exact ⟨_, jumpIf_notTaken hcond e, rfl, rfl, rfl, frame_advance s 2⟩

end Sys2Proof.Machine

/-! PROOFS. The loads and stores and the increments (`42_loads.md`, `43_arith_logic.md`). -/

namespace Sys2Proof.Machine

/-! ## Stores of one byte -/

/-- Settles O6: HL is a 16-bit value, so the store cannot fault. -/
theorem ldAtHLStoresImmediate : Obligations.LdAtHLStoresImmediate := by
  intro n s hwf
  rw [exec_ldAtHLImm, execLdAtHLImm, withWrite_addrOf, toNat_addrOf]
  refine ⟨_, rfl, ?_, by simp, by simp, by simp, (frame_store s _ n).trans_same (frame_advance _ 2)⟩
  rw [State.byteAt_advance, byteAt_store_same hwf]

theorem toNat_highAddr (n : Byte) : (highAddr n).toNat = 0xFF00 + n.toNat := by
  simp only [highAddr]
  omega

/-- A store of A in the I/O page never faults (`42_loads.md` R97, R99). -/
theorem storeA_highAddr {s : State} (hwf : Memory.wf s.mem = true) (n : Byte) (len : Word) :
    ∃ t, storeA (highAddr n) len s = .next t ∧ t.byteAt (highAddr n).toNat = s.reg .a ∧ t.f = s.f ∧ t.sp = s.sp ∧
      t.pc = s.pc + len ∧ Frame [] [(highAddr n).toNat] s t := by
  rw [storeA, withWrite_highAddr]
  refine ⟨_, rfl, ?_, by simp, by simp, by simp, (frame_store s _ _).trans_same (frame_advance _ len)⟩
  rw [State.byteAt_advance, byteAt_store_same hwf]

/-- Settles O12. -/
theorem highPageStoresAccumulator : Obligations.HighPageStoresAccumulator :=
  fun n _ hwf => ⟨toNat_highAddr n, storeA_highAddr hwf n 2, storeA_highAddr hwf _ 1⟩

/-- A load of A from the I/O page never faults (`42_loads.md` R98, R100). -/
theorem loadA_highAddr (s : State) (n : Byte) (len : Word) :
    ∃ t, loadA (highAddr n) len s = .next t ∧ t.reg .a = s.byteAt (0xFF00 + n.toNat) ∧ t.f = s.f ∧ t.sp = s.sp ∧
      t.pc = s.pc + len ∧ Frame [.a] [] s t := by
  rw [loadA, withRead_highAddr, toNat_highAddr]
  exact ⟨_, rfl, by simp, by simp, by simp, by simp, (frame_setReg s .a _).trans_same (frame_advance _ len)⟩

/-- Settles O13. -/
theorem highPageLoadsAccumulator : Obligations.HighPageLoadsAccumulator :=
  fun n s => ⟨loadA_highAddr s n 2, loadA_highAddr s _ 1⟩

/-- A load at an I/O address gives the A that a store there left, if the byte is still the one stored. -/
theorem loadA_of_storeA {s t u : State} (hwf : Memory.wf s.mem = true) {n : Byte} {len len' : Word}
    (ht : storeA (highAddr n) len s = .next t) (hu : u.byteAt (0xFF00 + n.toNat) = t.byteAt (0xFF00 + n.toNat)) :
    ∃ w, loadA (highAddr n) len' u = .next w ∧ w.reg .a = s.reg .a := by
  obtain ⟨t', ht', hbyte, -⟩ := storeA_highAddr hwf n len
  obtain rfl : t' = t := next_inj.mp (ht'.symm.trans ht)
  obtain ⟨w, hw, hval, -⟩ := loadA_highAddr u n len'
  exact ⟨w, hw, by rw [hval, hu, ← toNat_highAddr, hbyte]⟩

/-- Settles O14. -/
theorem highPageRoundTrip : Obligations.HighPageRoundTrip := by
  intro n s t u hwf
  refine ⟨fun ht hu => loadA_of_storeA hwf ht hu, fun ht hc hu => ?_⟩
  rw [exec_ldAFromHighC, hc]
  exact loadA_of_storeA hwf ht hu

/-- `LD (nn),SP` with both bytes in the address space (`42_loads.md` R88). -/
theorem execLdAtImmFromSP_of_room {nn : Word} (h : nn.toNat < 0xFFFF) (s : State) :
    execLdAtImmFromSP nn s =
      .next (((s.store nn.toNat (lowByte s.sp)).store (addrOf nn + 1).toNat (highByte s.sp)).advance 3) := by
  have hin : inRange (addrOf nn + 1) = true := by
    rw [inRange_iff]
    simp only [addrOf]
    omega
  rw [execLdAtImmFromSP, withWrite_addrOf, withWrite_of_inRange hin, State.sp_store]

/-- Settles O7: at 0xFFFF the low byte is stored, and the high byte has no address. -/
theorem ldAtImmStoresStackPointer : Obligations.LdAtImmStoresStackPointer := by
  intro nn s
  rw [exec_ldAtImmFromSP]
  refine ⟨fun hwf h => ?_, fun htop => ?_⟩
  · have hne : nn.toNat ≠ (addrOf nn + 1).toNat := by simp only [addrOf]; omega
    rw [toNat_addrOf]
    refine ⟨_, execLdAtImmFromSP_of_room h s, ?_, ?_, by simp, by simp, by simp, ?_⟩
    · rw [State.byteAt_advance, byteAt_store_other _ _ hne, byteAt_store_same hwf]
    · rw [State.byteAt_advance, byteAt_store_same (wf_store hwf nn.isLt _)]
    · exact ((frame_store s _ _).trans (frame_store _ _ _)).trans_same (frame_advance _ 3)
  · have haddr : addrOf nn + 1 = 0x10000 := by simp only [addrOf]; omega
    rw [execLdAtImmFromSP, withWrite_addrOf, haddr, withWrite_of_not_inRange (by decide)]
    exact ⟨_, rfl, rfl⟩

/-! ## Loads of registers and pairs -/

/-- Settles O5. -/
theorem ldImmLoadsRegister : Obligations.LdImmLoadsRegister := by
  intro r n s
  refine ⟨_, exec_ldImmInstr r n s, by simp, by simp, by simp, by simp, ?_⟩
  exact (frame_setReg s r n).trans_same (frame_advance _ 2)

/-- Settles O8. -/
theorem ldPairImmLoadsPair : Obligations.LdPairImmLoadsPair := by
  refine fun nn s => ⟨fun p => ?_, ?_⟩
  · refine ⟨_, exec_ldPairImmInstr p nn s, by simp, by simp, by simp, by simp, ?_⟩
    exact (frame_setPair s _ nn).trans_same (frame_advance _ 3)
  · refine ⟨_, exec_ldSPImm nn s, by simp, by simp, by simp, ?_⟩
    exact (frame_setSp s nn).trans_same (frame_advance _ 3)

/-- `LD A,(HL+)` and `LD A,(HL-)` for any step of HL (`42_loads.md` R95, R96): H and L are not A, so the step leaves what
was loaded. -/
theorem loadAStepHL_loads_then_steps (delta : Word) (s : State) :
    ∃ t, loadAStepHL delta s = .next t ∧ t.reg .a = s.byteAt (addrOf (s.pair .hl)).toNat ∧
      t.pair .hl = s.pair .hl + delta ∧ t.f = s.f ∧ t.sp = s.sp ∧ t.pc = s.pc + 1 ∧ Frame [.a, .h, .l] [] s t := by
  rw [loadAStepHL, withRead_addrOf, toNat_addrOf]
  refine ⟨_, rfl, ?_, by simp, by simp, by simp, by simp, ?_⟩
  · rw [State.reg_advance, State.reg_setPair_of_not_mem _ _ (by decide), State.reg_setReg_self]
  · exact ((frame_setReg s .a _).trans (frame_setPair _ .hl _)).trans_same (frame_advance _ 1)

/-- Settles O11: both rows are `loadAStepHL`, with the steps 1 and -1. -/
theorem autoStepLoadsThenStepsHL : Obligations.AutoStepLoadsThenStepsHL := by
  intro s
  rw [exec_ldAFromAtHLInc, exec_ldAFromAtHLDec, BitVec.sub_eq_add_neg]
  exact ⟨loadAStepHL_loads_then_steps 1 s, loadAStepHL_loads_then_steps (-1) s⟩

/-! ## Increment and decrement -/

theorem frame_setZNH (s : State) (z n h : Bool) : Frame [] [] s (s.setZNH z n h) := by
  simp [Frame, SameRegsExcept, SameMemoryExcept, SameControl]

/-- A row that writes one register and the flags Z, N and H (`10_state.md` R15, R18). -/
theorem frame_setReg_setZNH_advance (s : State) (r : Reg) (v : Byte) {z n h : Bool} (len : Word) :
    Frame [r] [] s (((s.setReg r v).setZNH z n h).advance len) :=
  ((frame_setReg s r v).trans_same (frame_setZNH _ z n h)).trans_same (frame_advance _ len)

theorem sameLowF_setReg_setZNH_advance (s : State) (r : Reg) (v : Byte) {z n h : Bool} (len : Word) :
    SameLowF s (((s.setReg r v).setZNH z n h).advance len) := by
  intro i hi
  rw [State.f_advance, State.lowF_setZNH _ z n h hi, State.f_setReg]

theorem isZero_eq_decide_toNat (v : Byte) : isZero v = decide (v.toNat = 0) := by
  rw [isZero_eq_decide]
  exact decide_eq_decide.mpr (BitVec.toNat_inj (y := 0)).symm

theorem toNat_dec (v : Byte) : (v - 1).toNat = (v.toNat + 255) % 256 := by
  bv_omega

/-- The low nibble becomes smaller exactly when it wraps from 0xF (`43_arith_logic.md` R110). -/
theorem halfCarryInc_eq (v : Byte) : halfCarryInc v (v + 1) = decide (v.toNat % 16 = 15) := by
  have hinc : (v + 1).toNat = (v.toNat + 1) % 256 := by simp
  rw [halfCarryInc, hinc]
  exact decide_eq_decide.mpr (by omega)

/-- The low nibble becomes larger exactly when it wraps from 0 (`43_arith_logic.md` R111, D22). -/
theorem halfBorrowDec_eq (v : Byte) : halfBorrowDec v (v - 1) = decide (v.toNat % 16 = 0) := by
  rw [halfBorrowDec, toNat_dec]
  exact decide_eq_decide.mpr (by omega)

/-- Settles O15. -/
theorem incRegAddsOneAndSetsFlags : Obligations.IncRegAddsOneAndSetsFlags := by
  intro r s
  refine ⟨_, exec_incInstr r s, ?value, ?z, by simp, ?h, ?h', by simp,
    sameLowF_setReg_setZNH_advance s r _ 1, by simp, by simp, frame_setReg_setZNH_advance s r _ 1⟩
  case value => simp
  case z => simpa using isZero_eq_decide_toNat (s.reg r + 1)
  case h => simp [halfCarryInc]
  case h' => simpa using halfCarryInc_eq (s.reg r)

/-- Settles O16. -/
theorem decRegSubtractsOneAndSetsFlags : Obligations.DecRegSubtractsOneAndSetsFlags := by
  intro r s
  refine ⟨_, exec_decInstr r s, ?value, ?z, by simp, ?h, ?h', by simp,
    sameLowF_setReg_setZNH_advance s r _ 1, by simp, by simp, frame_setReg_setZNH_advance s r _ 1⟩
  case value => simpa using toNat_dec (s.reg r)
  case z => simpa using isZero_eq_decide_toNat (s.reg r - 1)
  case h => simp [halfBorrowDec]
  case h' => simpa using halfBorrowDec_eq (s.reg r)

/-- Settles O17: adding and taking away one cancel, and neither writes C or another register. -/
theorem incThenDecRestores : Obligations.IncThenDecRestores := by
  intro r s
  refine ⟨_, _, exec_incInstr r s, exec_decInstr r _, ?value, ?z, by simp, by simp, fun r' _ => ?regs⟩
  case value => simp
  case z => simp [isZero_eq_decide]
  case regs =>
    by_cases hr : r' = r
    · simp [hr]
    · simp [State.reg_setReg_of_ne _ _ hr]

/-- Settles O18. -/
theorem incPairAddsOne : Obligations.IncPairAddsOne := by
  intro p s
  refine ⟨_, exec_incPairInstr p s, by simp, by simp, by simp, by simp, ?_⟩
  exact (frame_setPair s _ _).trans_same (frame_advance _ 1)

/-! ## The nine-bit rotation of RLA -/

/-- The nine bits that RLA turns: those of A, and the flag C above them (`43_arith_logic.md` R115). -/
def nineBits (s : State) (i : Fin 9) : Bool := if i = 8 then s.flagC else (s.reg .a).getLsbD i

/-- RLA moves every bit one place up, and the flag C to place 0. -/
theorem rla_rotates (s : State) : ∃ t, exec .rlaAcc s = .next t ∧ ∀ i, nineBits t (i + 1) = nineBits s i := by
  refine ⟨_, exec_rlaAcc s, fun i => ?_⟩
  fin_cases i <;> simp [nineBits, shiftLeftIn_eq_shiftConcat, BitVec.getElem_shiftConcat]

/-- RLA run n times moves every bit n places up, around the nine. -/
theorem execTimes_rla_rotates (n : Nat) (s : State) :
    ∃ t, execTimes .rlaAcc n s = .next t ∧ ∀ i, nineBits t ((· + 1)^[n] i) = nineBits s i := by
  induction n generalizing s with
  | zero => exact ⟨s, rfl, fun _ => rfl⟩
  | succ n ih =>
    obtain ⟨t, ht, hbits⟩ := rla_rotates s
    obtain ⟨u, hu, hbits'⟩ := ih t
    exact ⟨u, by rw [execTimes, ht]; exact hu, fun i => (hbits' (i + 1)).trans (hbits i)⟩

/-- Settles O21: nine places around nine bits is the identity. -/
theorem nineRlaRestore : Obligations.NineRlaRestore := by
  intro s
  obtain ⟨t, ht, hbits⟩ := execTimes_rla_rotates 9 s
  have hturn : ∀ i : Fin 9, (· + 1)^[9] i = i := by decide
  have hsame : ∀ i, nineBits t i = nineBits s i := fun i => by rw [← hbits i, hturn]
  refine ⟨t, ht, BitVec.eq_of_getLsbD_eq fun i hi => ?_, hsame 8⟩
  have hne : (⟨i, by omega⟩ : Fin 9) ≠ 8 := Fin.ne_of_val_ne (Nat.ne_of_lt hi)
  simpa [nineBits, hne] using hsame ⟨i, by omega⟩

end Sys2Proof.Machine

/-! PROOFS. The extended table (`45_extended.md` R130 to R149). An extended row reads its operand, writes its operand,
writes flags and advances PC by 2; the rows on a register and the rows at HL differ in where the operand is. -/

namespace Sys2Proof.Machine

/-! ## The rows as state updates -/

theorem runShift_eq (op : ShiftOp) (x : Operand8) (s : State) :
    runShift op x s = .next (((operandPut x (shiftResult op (operandValue x s) s.flagC) s).setZNHC
      (isZero (shiftResult op (operandValue x s) s.flagC)) false false (shiftOut op (operandValue x s))).advance 2) := by
  rw [runShift, withOperand_eq, putOperand_eq]

theorem runBit_eq (b : Index8) (x : Operand8) (s : State) :
    runBit b x s = .next ((s.setZNH (!(operandValue x s).getLsbD (indexNat b)) false true).advance 2) := by
  rw [runBit, withOperand_eq]

theorem runRes_eq (b : Index8) (x : Operand8) (s : State) :
    runRes b x s = .next ((operandPut x (putBit (operandValue x s) (indexNat b) false) s).advance 2) := by
  rw [runRes, withOperand_eq, putOperand_eq]

theorem runSet_eq (b : Index8) (x : Operand8) (s : State) :
    runSet b x s = .next ((operandPut x (putBit (operandValue x s) (indexNat b) true) s).advance 2) := by
  rw [runSet, withOperand_eq, putOperand_eq]

/-! ## The operand -/

@[simp] theorem operandValue_advance (x : Operand8) (s : State) (n : Word) :
    operandValue x (s.advance n) = operandValue x s := by
  cases x <;> simp [operandValue]

@[simp] theorem operandValue_setZNHC (x : Operand8) (s : State) (z n h c : Bool) :
    operandValue x (s.setZNHC z n h c) = operandValue x s := by
  cases x <;> simp [operandValue]

/-- The operand reads back what was written to it. -/
theorem operandValue_operandPut {s : State} (hwf : Memory.wf s.mem = true) (x : Operand8) (v : Byte) :
    operandValue x (operandPut x v s) = v := by
  cases x with
  | reg r => exact State.reg_setReg_self s r v
  | atHL => rw [operandValue, operandPut, State.pair_store, byteAt_store_same hwf]

theorem frame_operandPut_reg (s : State) (r : Reg) (v : Byte) : Frame [r] [] s (operandPut (.reg r) v s) :=
  frame_setReg s r v

theorem frame_operandPut_atHL (s : State) (v : Byte) :
    Frame [] [(s.pair .hl).toNat] s (operandPut .atHL v s) :=
  frame_store s _ v

/-! ## The rotates and shifts -/

/-- A left shift's row of the table (`45_extended.md` R130, R134, R138): the bit shifted in, and bit 7 out. -/
theorem shift_left_row {op : ShiftOp} {bitIn cin : Bool} {old : Byte}
    (h : (op, bitIn) ∈ [(ShiftOp.rlc, old.getLsbD 7), (.rl, cin), (.sla, false)]) :
    shiftResult op old cin = shiftLeftIn old bitIn ∧ shiftOut op old = old.getLsbD 7 := by
  simp only [List.mem_cons, Prod.mk.injEq, List.not_mem_nil, or_false] at h
  obtain ⟨rfl, rfl⟩ | ⟨rfl, rfl⟩ | ⟨rfl, rfl⟩ := h <;> exact ⟨rfl, rfl⟩

/-- A right shift's row of the table (`45_extended.md` R132, R136, R140, R142): the bit shifted in, and bit 0 out. -/
theorem shift_right_row {op : ShiftOp} {bitIn cin : Bool} {old : Byte}
    (h : (op, bitIn) ∈ [(ShiftOp.rrc, old.getLsbD 0), (.rr, cin), (.sra, old.getLsbD 7), (.srl, false)]) :
    shiftResult op old cin = shiftRightIn old bitIn ∧ shiftOut op old = old.getLsbD 0 := by
  simp only [List.mem_cons, Prod.mk.injEq, List.not_mem_nil, or_false] at h
  obtain ⟨rfl, rfl⟩ | ⟨rfl, rfl⟩ | ⟨rfl, rfl⟩ | ⟨rfl, rfl⟩ := h <;> exact ⟨rfl, rfl⟩

/-- Each bit of a byte shifted right with a bit shifted in. -/
theorem getLsbD_shiftRightIn (old : Byte) (cin : Bool) (i : Nat) :
    (shiftRightIn old cin).getLsbD i = if i = 7 then cin else old.getLsbD (i + 1) := by
  rw [shiftRightIn, getLsbD_putBit _ _ (by decide), BitVec.getLsbD_ushiftRight, Nat.add_comm]

/-- `(old >> 1) | (cin << 7)` as arithmetic (`45_extended.md` R132): the halved byte is below 128. -/
theorem toNat_shiftRightIn (old : Byte) (cin : Bool) :
    (shiftRightIn old cin).toNat = old.toNat / 2 + 128 * cin.toNat := by
  have hcat : shiftRightIn old cin = BitVec.cons cin (old.extractLsb' 1 7) := by
    refine BitVec.eq_of_getLsbD_eq fun i hi => ?_
    rw [getLsbD_shiftRightIn, BitVec.getLsbD_cons, BitVec.getLsbD_extractLsb', Nat.add_comm 1 i]
    by_cases h7 : i = 7
    · simp [h7]
    · have hlt : i < 7 := by omega
      simp [h7, hlt]
  have hhalf : (old.extractLsb' 1 7).toNat = old.toNat / 2 := by
    rw [BitVec.extractLsb'_toNat, Nat.shiftRight_eq_div_pow]
    omega
  rw [hcat, BitVec.toNat_cons', hhalf, Nat.shiftLeft_eq]
  omega

/-- A rotate or shift of a register: the result, the flags and the frame. -/
theorem exec_shift_reg (op : ShiftOp) (r : Reg) (s : State) :
    ∃ t, exec (shiftInstr op (.reg r)) s = .next t ∧ t.reg r = shiftResult op (s.reg r) s.flagC ∧
      t.flagZ = decide ((t.reg r).toNat = 0) ∧ t.flagN = false ∧ t.flagH = false ∧
      t.flagC = shiftOut op (s.reg r) ∧ SameLowF s t ∧ t.sp = s.sp ∧ t.pc = s.pc + 2 ∧ Frame [r] [] s t := by
  rw [exec_shiftInstr]
  refine ⟨_, runShift_eq op (.reg r) s, by simp [operandPut, operandValue], ?z, by simp, by simp, by simp [operandValue],
    sameLowF_setReg_setZNHC_advance s r _ 2, by simp, by simp, frame_setReg_setZNHC_advance s r _ 2⟩
  case z => simp [operandPut, isZero_eq_decide_toNat]

/-- Settles O28. -/
theorem leftShiftsOnRegister : Obligations.LeftShiftsOnRegister := by
  intro r s op bitIn hrow
  obtain ⟨hres, hout⟩ := shift_left_row (cin := s.flagC) hrow
  obtain ⟨t, ht, hval, hrest⟩ := exec_shift_reg op r s
  exact ⟨t, ht, by rw [hval, hres, toNat_shiftLeftIn], hout ▸ hrest⟩

/-- Settles O29. -/
theorem rightShiftsOnRegister : Obligations.RightShiftsOnRegister := by
  intro r s op bitIn hrow
  obtain ⟨hres, hout⟩ := shift_right_row (cin := s.flagC) hrow
  obtain ⟨t, ht, hval, hrest⟩ := exec_shift_reg op r s
  exact ⟨t, ht, by rw [hval, hres, toNat_shiftRightIn], hout ▸ hrest⟩

/-- A rotate or shift of the byte at HL: the result, the flags and the frame. -/
theorem exec_shift_atHL {s : State} (hwf : Memory.wf s.mem = true) (op : ShiftOp) :
    ∃ t, exec (shiftInstr op .atHL) s = .next t ∧
      t.byteAt (addrOf (s.pair .hl)).toNat = shiftResult op (s.byteAt (addrOf (s.pair .hl)).toNat) s.flagC ∧
      t.flagZ = decide ((t.byteAt (addrOf (s.pair .hl)).toNat).toNat = 0) ∧ t.flagN = false ∧ t.flagH = false ∧
      t.flagC = shiftOut op (s.byteAt (addrOf (s.pair .hl)).toNat) ∧ SameLowF s t ∧ t.sp = s.sp ∧ t.pc = s.pc + 2 ∧
      Frame [] [(addrOf (s.pair .hl)).toNat] s t := by
  rw [exec_shiftInstr, toNat_addrOf]
  refine ⟨_, runShift_eq op .atHL s, ?value, ?z, by simp, by simp, by simp [operandValue], ?low, by simp, by simp, ?frame⟩
  case value => simp [operandPut, operandValue, byteAt_store_same hwf]
  case z => simp [operandPut, byteAt_store_same hwf, isZero_eq_decide_toNat]
  case low => exact fun i hi => by rw [State.f_advance, State.lowF_setZNHC _ _ _ _ _ hi, f_operandPut]
  case frame =>
    exact ((frame_operandPut_atHL s _).trans_same (frame_setZNHC _ _ _ _ _)).trans_same (frame_advance _ 2)

/-- Settles O30. -/
theorem leftShiftsAtHL : Obligations.LeftShiftsAtHL := by
  intro s op bitIn hwf hrow
  obtain ⟨hres, hout⟩ := shift_left_row (cin := s.flagC) hrow
  obtain ⟨t, ht, hval, hrest⟩ := exec_shift_atHL hwf op
  exact ⟨t, ht, by rw [hval, hres, toNat_shiftLeftIn], hout ▸ hrest⟩

/-- Settles O31. -/
theorem rightShiftsAtHL : Obligations.RightShiftsAtHL := by
  intro s op bitIn hwf hrow
  obtain ⟨hres, hout⟩ := shift_right_row (cin := s.flagC) hrow
  obtain ⟨t, ht, hval, hrest⟩ := exec_shift_atHL hwf op
  exact ⟨t, ht, by rw [hval, hres, toNat_shiftRightIn], hout ▸ hrest⟩

/-! ## Single bits -/

/-- Settles O32. -/
theorem bitTestsOneBit : Obligations.BitTestsOneBit := by
  intro b x s
  rw [exec_bitInstr]
  refine ⟨_, runBit_eq b x s, by simp, by simp, by simp, by simp, fun i hi => ?_, by simp, by simp, ?_⟩
  · rw [State.f_advance, State.lowF_setZNH _ _ _ _ hi]
  · exact (frame_setZNH s _ _ _).trans_same (frame_advance _ 2)

/-- RES and SET are one row with the value of the bit (`45_extended.md` R146 to R149). -/
theorem exec_bitWrite {b : Index8} {x : Operand8} {i : Instr} {v : Bool}
    (h : (i, v) ∈ [(resInstr b x, false), (setInstr b x, true)]) (s : State) :
    exec i s = .next ((operandPut x (putBit (operandValue x s) (indexNat b) v) s).advance 2) := by
  simp only [List.mem_cons, Prod.mk.injEq, List.not_mem_nil, or_false] at h
  obtain ⟨rfl, rfl⟩ | ⟨rfl, rfl⟩ := h
  · rw [exec_resInstr, runRes_eq]
  · rw [exec_setInstr, runSet_eq]

/-- Settles O33. -/
theorem resAndSetOnRegister : Obligations.ResAndSetOnRegister := by
  intro b r s i v hrow
  refine ⟨_, exec_bitWrite hrow s, fun j _ => ?_, by simp, by simp, by simp, ?_⟩
  · rw [State.reg_advance, operandPut, State.reg_setReg_self, getLsbD_putBit _ v (toNat_indexNat_lt b)]
    rfl
  · exact (frame_operandPut_reg s r _).trans_same (frame_advance _ 2)

/-- RES or SET of the byte at HL: the byte stored and the frame. -/
theorem exec_bitWrite_atHL {s : State} (hwf : Memory.wf s.mem = true) {b : Index8} {i : Instr} {v : Bool}
    (h : (i, v) ∈ [(resInstr b .atHL, false), (setInstr b .atHL, true)]) :
    ∃ t, exec i s = .next t ∧
      t.byteAt (addrOf (s.pair .hl)).toNat = putBit (operandValue .atHL s) (indexNat b) v ∧
      t.f = s.f ∧ t.sp = s.sp ∧ t.pc = s.pc + 2 ∧ Frame [] [(addrOf (s.pair .hl)).toNat] s t := by
  rw [toNat_addrOf]
  refine ⟨_, exec_bitWrite h s, ?_, by simp, by simp, by simp, ?_⟩
  · rw [State.byteAt_advance, operandPut, byteAt_store_same hwf]
  · exact (frame_operandPut_atHL s _).trans_same (frame_advance _ 2)

/-- Settles O34. -/
theorem resAndSetAtHL : Obligations.ResAndSetAtHL := by
  intro b s i v hwf hrow
  obtain ⟨t, ht, hbyte, hrest⟩ := exec_bitWrite_atHL hwf hrow
  refine ⟨t, ht, fun j _ => ?_, hrest⟩
  rw [hbyte, getLsbD_putBit _ v (toNat_indexNat_lt b), operandValue, toNat_addrOf]

/-! ## One row after another -/

/-- Each bit of a byte shifted left with a bit shifted in. -/
theorem getLsbD_shiftLeftIn (old : Byte) (cin : Bool) {i : Nat} (hi : i < 8) :
    (shiftLeftIn old cin).getLsbD i = if i = 0 then cin else old.getLsbD (i - 1) := by
  rw [shiftLeftIn_eq_shiftConcat, BitVec.getLsbD_shiftConcat]
  simp [hi]

/-- A shift right with the bit that a shift left had shifted out gives the byte back. -/
theorem shiftRightIn_shiftLeftIn (old : Byte) (cin : Bool) :
    shiftRightIn (shiftLeftIn old cin) (old.getLsbD 7) = old := by
  refine BitVec.eq_of_getLsbD_eq fun i hi => ?_
  rw [getLsbD_shiftRightIn]
  by_cases h7 : i = 7
  · rw [if_pos h7, h7]
  · rw [if_neg h7, getLsbD_shiftLeftIn _ _ (by omega), if_neg (Nat.succ_ne_zero i), Nat.add_sub_cancel]

/-- A rotate or shift of any operand, as far as a later row reads it. -/
theorem exec_shift_operand {s : State} (hwf : Memory.wf s.mem = true) (op : ShiftOp) (x : Operand8) :
    ∃ t, exec (shiftInstr op x) s = .next t ∧ Memory.wf t.mem = true ∧
      operandValue x t = shiftResult op (operandValue x s) s.flagC ∧ t.flagC = shiftOut op (operandValue x s) := by
  have ht := (exec_shiftInstr op x s).trans (runShift_eq op x s)
  exact ⟨_, ht, wf_of_exec ht hwf, by simp [operandValue_operandPut hwf], by simp⟩

/-- Settles O35: the bit shifted out to the left is the one shifted in from the right. -/
theorem oppositeRotatesRestore : Obligations.OppositeRotatesRestore := by
  intro x s hwf
  constructor
  · obtain ⟨t, ht, hwft, hval, -⟩ := exec_shift_operand hwf .rlc x
    obtain ⟨u, hu, -, hval', -⟩ := exec_shift_operand hwft .rrc x
    refine ⟨t, u, ht, hu, ?_⟩
    have hout : (operandValue x t).getLsbD 0 = (operandValue x s).getLsbD 7 := by
      rw [hval]
      exact getLsbD_shiftLeftIn _ _ (by decide)
    rw [hval', shiftResult, hout, hval]
    exact shiftRightIn_shiftLeftIn _ _
  · obtain ⟨t, ht, hwft, hval, hc⟩ := exec_shift_operand hwf .rl x
    obtain ⟨u, hu, -, hval', hc'⟩ := exec_shift_operand hwft .rr x
    refine ⟨t, u, ht, hu, ?_, ?_⟩
    · rw [hval', shiftResult, hc, hval]
      exact shiftRightIn_shiftLeftIn _ _
    · rw [hc', shiftOut, hval]
      exact getLsbD_shiftLeftIn _ _ (by decide)

/-- Settles O36: the bit that SET or RES wrote is the one BIT reads. -/
theorem bitSeesSetAndRes : Obligations.BitSeesSetAndRes := by
  intro b x s hwf
  simp only [exec_bitInstr, exec_setInstr, exec_resInstr, runBit_eq, runSet_eq, runRes_eq]
  refine ⟨⟨_, _, rfl, rfl, ?_⟩, ⟨_, _, rfl, rfl, ?_⟩⟩ <;>
    simp [operandValue_operandPut hwf, getLsbD_putBit _ _ (toNat_indexNat_lt b)]

/-! ## The row `prefixCB` with an entry -/

theorem sameMemoryExcept_operandPut (x : Operand8) (v : Byte) (s : State) :
    SameMemoryExcept [(s.pair .hl).toNat] s (operandPut x v s) := by
  cases x with
  | reg r => simp [SameMemoryExcept]
  | atHL => exact (frame_operandPut_atHL s v).2.1

/-- What every extended operation leaves as it was (`45_extended.md`: none writes SP, and PC advances by 2). -/
theorem runExt_completes (op : ExtOp) (s : State) :
    ∃ t, runExt op s = .next t ∧ t.pc = s.pc + 2 ∧ t.sp = s.sp ∧ SameControl s t ∧ SameLowF s t ∧
      SameMemoryExcept [(s.pair .hl).toNat] s t := by
  cases op with
  | shift o x =>
    refine ⟨_, runShift_eq o x s, by simp, by simp, by simp [SameControl], fun i hi => ?_, fun y hy => ?_⟩
    · rw [State.f_advance, State.lowF_setZNHC _ _ _ _ _ hi, f_operandPut]
    · rw [State.byteAt_advance, State.byteAt_setZNHC, sameMemoryExcept_operandPut x _ s y hy]
  | bit b x =>
    refine ⟨_, runBit_eq b x s, by simp, by simp, by simp [SameControl], fun i hi => ?_, fun y hy => by simp⟩
    rw [State.f_advance, State.lowF_setZNH _ _ _ _ hi]
  | res b x =>
    refine ⟨_, runRes_eq b x s, by simp, by simp, by simp [SameControl], fun i hi => by simp, fun y hy => ?_⟩
    rw [State.byteAt_advance, sameMemoryExcept_operandPut x _ s y hy]
  | set b x =>
    refine ⟨_, runSet_eq b x s, by simp, by simp, by simp [SameControl], fun i hi => by simp, fun y hy => ?_⟩
    rw [State.byteAt_advance, sameMemoryExcept_operandPut x _ s y hy]

/-- Settles O27: the byte selects an operation, and every operation completes. -/
theorem prefixCompletesWithEntry : Obligations.PrefixCompletesWithEntry := by
  intro ext s hentry
  rw [← extOpOfByte_eq_none_iff] at hentry
  obtain ⟨op, hsel⟩ := Option.ne_none_iff_exists'.mp hentry
  rw [exec_prefixCB_of_entry hsel, toNat_addrOf]
  exact runExt_completes op s

end Sys2Proof.Machine

/-! PROOFS. Which instruction writes what (`10_state.md` R13, R15, R18, `20_memory.md` R35, `40_fetch_execute.md` R72): each
rule by cases on what an instruction can do, `ExecEffect`. -/

namespace Sys2Proof.Machine

/-! ## F (`10_state.md` R15, R18) -/

/-- How an instruction may leave F: as it was, all eight bits from the stack, the flags Z, N and H written, or all four
flags written; and which rows do so. -/
inductive FlagEffect (s t : State) : Instr → Prop where
  | kept {i : Instr} (h : t.f = s.f) : FlagEffect s t i
  | popAF : FlagEffect s t .popAF
  | znh {i : Instr}
      (hi : (∃ r, i = incInstr r ∨ i = decInstr r) ∨ (∃ b x, i = bitInstr b x) ∨ ∃ ext, i = .prefixCB ext)
      (hcarry : t.flagC = s.flagC) (hlow : SameLowF s t) : FlagEffect s t i
  | znhc {i : Instr}
      (hi : (∃ r, i = xorInstr r) ∨ i = .rlaAcc ∨ (∃ op x, i = shiftInstr op x) ∨
        ∃ ext op x, i = .prefixCB ext ∧ encode (shiftInstr op x) = [0xCB, ext])
      (hlow : SameLowF s t) : FlagEffect s t i

theorem PushEffect.f {s t : State} {v : Word} {go : State → State} (h : PushEffect s v go t)
    (hgo : ∀ u, (go u).f = u.f) : t.f = s.f := by
  cases h with
  | ok hroom => exact hgo _
  | zero h0 => rfl
  | one h1 => rfl

theorem flagEffect_of_exec {i : Instr} {s t : State} (h : exec i s = .next t) : FlagEffect s t i := by
  cases execEffect h with
  | push p hp => exact .kept (hp.f fun _ => rfl)
  | rst k hp => exact .kept (hp.f fun _ => rfl)
  | call nn hp => exact .kept (hp.f fun _ => rfl)
  | pop p hr =>
    cases p with
    | af => exact .popAF
    | bc => exact .kept rfl
    | de => exact .kept rfl
    | hl => exact .kept rfl
  | inc r => exact .znh (.inl ⟨r, .inl rfl⟩) (by simp) (sameLowF_setReg_setZNH_advance s r _ 1)
  | dec r => exact .znh (.inl ⟨r, .inr rfl⟩) (by simp) (sameLowF_setReg_setZNH_advance s r _ 1)
  | xor r => exact .znhc (.inl ⟨r, rfl⟩) (sameLowF_setReg_setZNHC_advance s .a _ 1)
  | rlaAcc => exact .znhc (.inr (.inl rfl)) (sameLowF_setReg_setZNHC_advance s .a _ 1)
  | shift op x hi =>
    refine .znhc ?_ fun j hj => by rw [State.f_advance, State.lowF_setZNHC _ _ _ _ _ hj, f_operandPut]
    obtain rfl | ⟨ext, rfl, hsel⟩ := hi
    · exact .inr (.inr (.inl ⟨op, x, rfl⟩))
    · exact .inr (.inr (.inr ⟨ext, op, x, rfl, encode_extInstr_iff.mpr hsel⟩))
  | bit b x hi =>
    refine .znh (.inr ?_) (by simp) fun j hj => by rw [State.f_advance, State.lowF_setZNH _ _ _ _ hj]
    obtain rfl | ⟨ext, rfl, -⟩ := hi
    · exact .inl ⟨b, x, rfl⟩
    · exact .inr ⟨ext, rfl⟩
  | ldAtHLDecFromA => exact .kept (by rw [State.f_advance, State.f_setPair_hl, State.f_store])
  | ldAFromAtHLDec => exact .kept (by rw [State.f_advance, State.f_setPair_hl, State.f_setReg])
  | _ => exact .kept (by simp)

/-- Settles O37. -/
theorem onlyFlagInstructionsWriteF : Obligations.OnlyFlagInstructionsWriteF := by
  intro i s t h
  cases flagEffect_of_exec h with
  | kept hf => exact .inl hf
  | popAF => exact .inr (.inr (.inr (.inl rfl)))
  | znh hi _ _ =>
    obtain ⟨r, hr⟩ | hbit | hprefix := hi
    · exact .inr (.inl ⟨r, hr.imp_right .inl⟩)
    · exact .inr (.inr (.inr (.inr (.inr (.inl hbit)))))
    · exact .inr (.inr (.inr (.inr (.inr (.inr hprefix)))))
  | znhc hi _ =>
    obtain ⟨r, hr⟩ | hrla | hshift | ⟨ext, op, x, hprefix, -⟩ := hi
    · exact .inr (.inl ⟨r, .inr (.inr hr)⟩)
    · exact .inr (.inr (.inl hrla))
    · exact .inr (.inr (.inr (.inr (.inl hshift))))
    · exact .inr (.inr (.inr (.inr (.inr (.inr ⟨ext, hprefix⟩)))))

/-- Settles O38. -/
theorem onlyPopAFWritesLowF : Obligations.OnlyPopAFWritesLowF := by
  intro i s t h hi
  cases flagEffect_of_exec h with
  | kept hf => exact fun j _ => by rw [hf]
  | popAF => exact absurd rfl hi
  | znh _ hcarry hlow => exact hlow
  | znhc _ hlow => exact hlow

/-- Settles O39. -/
theorem onlyCarryInstructionsWriteC : Obligations.OnlyCarryInstructionsWriteC := by
  intro i s t h
  cases flagEffect_of_exec h with
  | kept hf => exact .inl (by rw [State.flagC, State.flagC, hf])
  | popAF => exact .inr (.inr (.inr (.inl rfl)))
  | znh _ hcarry hlow => exact .inl hcarry
  | znhc hi hlow =>
    obtain hxor | hrla | hshift | hprefix := hi
    · exact .inr (.inl hxor)
    · exact .inr (.inr (.inl hrla))
    · exact .inr (.inr (.inr (.inr (.inl hshift))))
    · exact .inr (.inr (.inr (.inr (.inr hprefix))))

/-! ## SP and memory -/

/-- Settles O40. -/
theorem onlyStackInstructionsWriteSP : Obligations.OnlyStackInstructionsWriteSP := by
  intro i s t h
  cases execEffect h with
  | ldSPImm nn => exact .inr (.inl ⟨nn, rfl⟩)
  | push p hp => exact .inr (.inr (.inl ⟨p, .inl rfl⟩))
  | pop p hr => exact .inr (.inr (.inl ⟨p, .inr rfl⟩))
  | call nn hp => exact .inr (.inr (.inr (.inl ⟨nn, rfl⟩)))
  | rst k hp => exact .inr (.inr (.inr (.inr ⟨k, rfl⟩)))
  | _ => exact .inl (by simp)

/-- Settles O41: an extended row writes memory only with its operand at HL. -/
theorem onlyStoresWriteMemory : Obligations.OnlyStoresWriteMemory := by
  intro i s t h
  cases execEffect h with
  | push p hp => simp
  | rst k hp => simp
  | call nn hp => simp
  | ldAtImmFromSP nn hr => simp
  | ldAtImmFromSPTop nn ht => simp
  | ldAtHLImm n => simp
  | ldAtHLIncFromA => simp
  | ldAtHLDecFromA => simp
  | ldHighImmFromA n => simp
  | ldHighCFromA => simp
  | shift op x hi =>
    cases x with
    | reg r => exact .inl (by simp [SameMemoryExcept])
    | atHL =>
      iterate 10 right
      obtain hi | ⟨ext, hext, -⟩ := hi
      exacts [.inl ⟨op, hi⟩, .inr (.inr ⟨ext, hext⟩)]
  | res b x hi =>
    cases x with
    | reg r => exact .inl (by simp [SameMemoryExcept])
    | atHL =>
      iterate 10 right
      obtain hi | ⟨ext, hext, -⟩ := hi
      exacts [.inr (.inl ⟨b, .inl hi⟩), .inr (.inr ⟨ext, hext⟩)]
  | set b x hi =>
    cases x with
    | reg r => exact .inl (by simp [SameMemoryExcept])
    | atHL =>
      iterate 10 right
      obtain hi | ⟨ext, hext, -⟩ := hi
      exacts [.inr (.inl ⟨b, .inr hi⟩), .inr (.inr ⟨ext, hext⟩)]
  | _ => exact .inl (by simp [SameMemoryExcept])

/-! ## PC (`40_fetch_execute.md` R72) -/

/-- A push from a RUNNING state that does not fault goes on to its own PC. -/
theorem eq_pushed_of_push {s t : State} {v : Word} {go : State → State}
    (h : push16 v s (fun u => .next (go u)) = .next t) (hrun : t.runState = .running) : t = go (pushed s v) := by
  cases pushEffect_of_next h with
  | ok hroom => rfl
  | zero h0 => cases hrun
  | one h1 => cases hrun

/-- An extended operation is two bytes, by its own row and by the row `prefixCB`. -/
theorem length_encode_ext {i : Instr} {op : ExtOp}
    (hi : i = extInstr op ∨ ∃ ext, i = .prefixCB ext ∧ extOpOfByte ext = some op) : (encode i).length = 2 := by
  obtain rfl | ⟨ext, rfl, -⟩ := hi
  · obtain ⟨ext, henc, -⟩ := exists_extByte op
    rw [henc]
    rfl
  · rfl

/-- An instruction that advances PC by a number advances it by its length, if that is the length of its encoding. -/
theorem pc_advance_of_length {s u : State} {i : Instr} {n : Nat} (hpc : u.pc = s.pc) (hlen : (encode i).length = n) :
    (u.advance (BitVec.ofNat 16 n)).pc = s.pc + BitVec.ofNat 16 (encode i).length := by
  rw [hlen, State.pc_advance_self, hpc]

/-- The general rule: an instruction that is no transfer of control and does not fault adds its length to PC. -/
theorem pc_of_exec {i : Instr} {s t : State} (h : exec i s = .next t) (hrun : t.runState = .running)
    (hjr : ∀ e, i ≠ .jr e) (hcond : ∀ cc e, i ≠ jrCondInstr cc e) (hcall : ∀ nn, i ≠ .call nn)
    (hrst : ∀ k, i ≠ rstInstr k) : t.pc = s.pc + BitVec.ofNat 16 (encode i).length := by
  cases execEffect h with
  | jr e => exact absurd rfl (hjr e)
  | jrTaken cc e hc => exact absurd rfl (hcond cc e)
  | jrNotTaken cc e hc => exact absurd rfl (hcond cc e)
  | call nn hp => exact absurd rfl (hcall nn)
  | rst k hp => exact absurd rfl (hrst k)
  | popTop p ht => cases hrun
  | ldAtImmFromSPTop nn ht => cases hrun
  | prefixUndefined ext he => cases hrun
  | push p hp =>
    cases hp with
    | ok hroom => exact pc_advance_of_length (by simp) (by cases p <;> rfl)
    | zero h0 => cases hrun
    | one h1 => cases hrun
  | shift op x hi => exact pc_advance_of_length (by simp) (length_encode_ext (op := .shift op x) hi)
  | bit b x hi => exact pc_advance_of_length (by simp) (length_encode_ext (op := .bit b x) hi)
  | res b x hi => exact pc_advance_of_length (by simp) (length_encode_ext (op := .res b x) hi)
  | set b x hi => exact pc_advance_of_length (by simp) (length_encode_ext (op := .set b x) hi)
  | pop p hr => exact pc_advance_of_length (by simp) (by cases p <;> rfl)
  | ld r r' => exact pc_advance_of_length (by simp) (by cases r <;> cases r' <;> rfl)
  | ldImm r n => exact pc_advance_of_length (by simp) (by cases r <;> rfl)
  | ldPairImm p nn => exact pc_advance_of_length (by simp) (by cases p <;> rfl)
  | ldAFromAt p => exact pc_advance_of_length (by simp) (by cases p <;> rfl)
  | inc r => exact pc_advance_of_length (by simp) (by cases r <;> rfl)
  | dec r => exact pc_advance_of_length (by simp) (by cases r <;> rfl)
  | incPair p => exact pc_advance_of_length (by simp) (by cases p <;> rfl)
  | xor r => exact pc_advance_of_length (by simp) (by cases r <;> rfl)
  | _ => exact pc_advance_of_length (by simp) rfl

/-- Settles O42: the transfers of control one by one, every other row by the general rule. -/
theorem pcRuleOfEveryInstruction : Obligations.PcRuleOfEveryInstruction := by
  intro i s t h _ hrun
  refine ⟨?jr, ?taken, ?notTaken, ?call, ?rst, pc_of_exec h hrun⟩
  case jr =>
    rintro e rfl
    rw [← next_inj.mp h]
    exact pc_add_offset s.pc e
  case taken =>
    rintro cc e rfl hc
    rw [exec_jrCondInstr, jumpIf_taken hc] at h
    rw [← next_inj.mp h]
    exact pc_add_offset s.pc e
  case notTaken =>
    rintro cc e rfl hc
    rw [exec_jrCondInstr, jumpIf_notTaken hc] at h
    rw [← next_inj.mp h]
    rfl
  case call =>
    rintro nn rfl
    rw [exec_call, execCall] at h
    rw [eq_pushed_of_push h hrun]
    rfl
  case rst =>
    rintro k rfl
    rw [exec_rstInstr, restart] at h
    rw [eq_pushed_of_push h hrun]
    exact toNat_rstTarget k

end Sys2Proof.Machine

/-! PROOFS. The ROM loader (`70_reset_and_hazards.md` R187), and that a fetch sees every byte stored before it
(`20_memory.md` section 7). -/

namespace Sys2Proof.Machine

/-! ## The loader -/

/-- What storing an image from address n upward leaves, as far as it stays in the address space. -/
theorem storeFrom_fills (image : List Byte) (n : Nat) (s : State) (hwf : Memory.wf s.mem = true)
    (hroom : n + image.length ≤ 65536) :
    (∀ x (h : x < image.length), (storeFrom s n image).byteAt (n + x) = image[x]) ∧
    (∀ x, x < n ∨ n + image.length ≤ x → (storeFrom s n image).byteAt x = s.byteAt x) ∧
    Memory.wf (storeFrom s n image).mem = true ∧
    storeFrom s n image = { s with mem := (storeFrom s n image).mem } := by
  induction image generalizing n s with
  | nil => exact ⟨fun x h => absurd h (Nat.not_lt_zero x), fun _ _ => rfl, hwf, rfl⟩
  | cons v vs ih =>
    rw [List.length_cons] at hroom
    have hn : n ≤ 0xFFFF := by omega
    obtain ⟨hin, hout, hwf', hsame⟩ := ih (n + 1) (s.store n v) (wf_store hwf (by omega) v) (by omega)
    rw [storeFrom, if_pos hn]
    refine ⟨fun x hx => ?_, fun x hx => ?_, hwf', hsame⟩
    · cases x with
      | zero => exact (hout n (.inl (Nat.lt_succ_self n))).trans (byteAt_store_same hwf n v)
      | succ x =>
        have hin' := hin x (Nat.lt_of_succ_lt_succ hx)
        rwa [Nat.add_assoc, Nat.add_comm 1 x] at hin'
    · rw [List.length_cons] at hx
      rw [hout x (by omega), byteAt_store_other s v (by omega)]

/-- Settles O48: the loader stores the image from address 0 upward. -/
theorem romLoaderFillsMemory : Obligations.RomLoaderFillsMemory := by
  intro image s hwf hlen
  obtain ⟨hin, hout, hwf', hsame⟩ := storeFrom_fills image 0 s hwf (by omega)
  refine ⟨fun x h => ?_, fun x h => hout x (.inr (by omega)), hwf', ?_⟩
  · have hin' := hin x h
    rwa [Nat.zero_add] at hin'
  · rw [loadRom, hsame]
    exact ⟨fun r _ => by cases r <;> rfl, rfl, rfl, rfl, rfl, rfl, rfl, rfl, rfl, rfl⟩

/-! ## Fetches after a store -/

/-- Settles O59: the next step fetches at the address of the store. -/
theorem fetchSeesEarlierStores : Obligations.FetchSeesEarlierStores := by
  intro n s hwf hrun hhl
  obtain ⟨t, ht, hbyte, -, -, hpc, -, -, hctl⟩ := ldAtHLStoresImmediate n s hwf
  obtain ⟨hrun', hflag', -⟩ := hctl
  rw [toNat_addrOf, hhl, ← hpc] at hbyte
  obtain ⟨rest, hfetch⟩ := fetchBytes_cons t
  refine ⟨t, ht, by rw [hfetch, hbyte]; rfl, fun hflag hundef => ?_⟩
  have hstep := step_of_undefined (s := t) ⟨hrun'.trans hrun, hflag'.trans hflag⟩ (by rw [hbyte]; exact hundef)
  exact ⟨_, hstep, by rw [runState_faultedAt, pc_hostTurn, hbyte, hpc]⟩

/-- An instruction answers a next state with the byte at its address and the control state as it was. -/
def StoreCompletes (i : Instr) (a : Nat) (v : Byte) (s : State) : Prop :=
  ∃ t, exec i s = .next t ∧ t.byteAt a = v ∧ SameControl s t

/-- Every address of the access list is inside the address space (`20_memory.md` R36). -/
theorem storesByte_lt {s : State} {i : Instr} {a : Nat} {v : Byte} (h : StoresByte s i a v) : a < 65536 := by
  have hsp := s.sp.isLt
  have hhl := (s.pair .hl).isLt
  induction h with
  | highImm n => exact highAddr_lt n
  | highC => exact highAddr_lt _
  | prefixed _ _ ih => exact ih
  | _ => simp only [addrOf]; omega

/-- The store of each row of the access list, by what the row's own statement says (`20_memory.md` R35). -/
theorem storeCompletes {s : State} (hwf : Memory.wf s.mem = true) {i : Instr} {a : Nat} {v : Byte}
    (h : StoresByte s i a v) : StoreCompletes i a v s := by
  induction h with
  | pushHigh p hroom =>
    obtain ⟨t, ht, hhigh, hlow, -, -, -, -, -, hctl⟩ := (pushStoresPair p s).1 hwf hroom
    exact ⟨t, ht, hhigh, hctl⟩
  | pushLow p hroom =>
    obtain ⟨t, ht, hhigh, hlow, -, -, -, -, -, hctl⟩ := (pushStoresPair p s).1 hwf hroom
    exact ⟨t, ht, hlow, hctl⟩
  | callHigh nn hroom =>
    obtain ⟨t, ht, hhigh, hlow, -, -, -, -, -, hctl⟩ := (callPushesReturnAddress nn s).1 hwf hroom
    exact ⟨t, ht, hhigh, hctl⟩
  | callLow nn hroom =>
    obtain ⟨t, ht, hhigh, hlow, -, -, -, -, -, hctl⟩ := (callPushesReturnAddress nn s).1 hwf hroom
    exact ⟨t, ht, hlow, hctl⟩
  | rstHigh k hroom =>
    obtain ⟨t, ht, hhigh, hlow, -, -, -, -, -, hctl⟩ := (rstPushesAndJumpsToVector k s).1 hwf hroom
    exact ⟨t, ht, by rw [hhigh, rstPushed_eq], hctl⟩
  | rstLow k hroom =>
    obtain ⟨t, ht, hhigh, hlow, -, -, -, -, -, hctl⟩ := (rstPushesAndJumpsToVector k s).1 hwf hroom
    exact ⟨t, ht, by rw [hlow, rstPushed_eq], hctl⟩
  | spLow nn hr =>
    obtain ⟨t, ht, hlow, hhigh, -, -, -, -, -, hctl⟩ := (ldAtImmStoresStackPointer nn s).1 hwf hr
    exact ⟨t, ht, hlow, hctl⟩
  | spHigh nn hr =>
    obtain ⟨t, ht, hlow, hhigh, -, -, -, -, -, hctl⟩ := (ldAtImmStoresStackPointer nn s).1 hwf hr
    exact ⟨t, ht, hhigh, hctl⟩
  | atHLImm n =>
    obtain ⟨t, ht, hbyte, -, -, -, -, -, hctl⟩ := ldAtHLStoresImmediate n s hwf
    exact ⟨t, ht, hbyte, hctl⟩
  | atHLInc =>
    obtain ⟨t, ht, hbyte, -, -, -, -, -, -, hctl⟩ := (autoStepStoresThenStepsHL s hwf).1
    exact ⟨t, ht, hbyte, hctl⟩
  | atHLDec =>
    obtain ⟨t, ht, hbyte, -, -, -, -, -, -, hctl⟩ := (autoStepStoresThenStepsHL s hwf).2
    exact ⟨t, ht, hbyte, hctl⟩
  | highImm n =>
    obtain ⟨t, ht, hbyte, -, -, -, -, -, hctl⟩ := storeA_highAddr hwf n 2
    exact ⟨t, ht, hbyte, hctl⟩
  | highC =>
    obtain ⟨t, ht, hbyte, -, -, -, -, -, hctl⟩ := storeA_highAddr hwf (s.reg .c) 1
    exact ⟨t, ht, hbyte, hctl⟩
  | shift op =>
    obtain ⟨t, ht, hbyte, -, -, -, -, -, -, -, -, -, hctl⟩ := exec_shift_atHL hwf op
    exact ⟨t, ht, hbyte.trans (by rw [toNat_addrOf]; rfl), hctl⟩
  | res b =>
    obtain ⟨t, ht, hbyte, -, -, -, -, -, hctl⟩ := exec_bitWrite_atHL hwf (b := b) (List.mem_cons_self ..)
    exact ⟨t, ht, hbyte, hctl⟩
  | set b =>
    obtain ⟨t, ht, hbyte, -, -, -, -, -, hctl⟩ :=
      exec_bitWrite_atHL hwf (b := b) (List.mem_cons_of_mem _ (List.mem_cons_self ..))
    exact ⟨t, ht, hbyte, hctl⟩
  | prefixed henc _ ih =>
    obtain ⟨t, ht, hrest⟩ := ih
    exact ⟨t, ((prefixRunsExtendedRow _ s).1 _ henc).trans ht, hrest⟩

/-- Settles O60: what a fetch sees is a matter of the byte in memory alone, and every storing row leaves its byte. -/
theorem everyStoreIsSeenByLaterFetches : Obligations.EveryStoreIsSeenByLaterFetches := by
  intro i a v s hwf hrun hstore
  obtain ⟨t, ht, hbyte, hrun', hflag', -⟩ := storeCompletes hwf hstore
  have ha := storesByte_lt hstore
  refine ⟨t, ht, hrun'.trans hrun, hflag', hbyte, fun u hu => ?_⟩
  rw [hbyte] at hu
  refine ⟨fun k hk hpc => ?_, fun hs hpc hundef => ?_⟩
  · rw [getElem?_fetchBytes hk (by omega), hpc, hu]
  · rw [← hpc] at hu
    rw [← hu] at hundef ⊢
    exact ⟨_, step_of_undefined hs hundef, by simp⟩

end Sys2Proof.Machine
